-- ==== Sys2Proof/Word.lean ====
section
/-!
DEFINITION. The words of the block: bytes, command and response words, and the FLT values.
Bits are numbered from 0 at the least significant end (00_scope.md R7).
-/
namespace Sys2Proof

/-- One byte of the sensor's register space (20_memory.md R35). -/
abbrev Byte := BitVec 8

/-- A command word: `op = cmd[71:64]`, `arg = cmd[63:0]` (30_encoding.md R50). -/
abbrev CommandWord := BitVec 72

/-- A response word: `status = rsp[71:64]`, `value = rsp[63:0]` (30_encoding.md R54). -/
abbrev ResponseWord := BitVec 72

/-- A value of the format FLT, IEEE 754 binary64 (00_scope.md R13). A finite value is its sign and its
magnitude read as exponent and fraction (the low 63 bits of its pattern); every pattern of a NaN is the
one value `nan` (the spec fixes no NaN pattern: 95_test_vectors.md 2.6; notes/assumptions/13.md).
The bound is 0x7FF0000000000000, the magnitude of infinity. -/
inductive Flt
  | nan
  | inf (neg : Bool)
  | fin (neg : Bool) (mag : Fin 9218868437227405312)
deriving DecidableEq, Repr, Inhabited

end Sys2Proof
end

