-- ==== Sys2Proof/Machine/Float.lean ====
section
/-!
DEFINITION. FLT arithmetic (00_scope.md R13): IEEE 754 binary64, round to nearest, ties to even, default
exception handling, each operation rounded once.

Every finite FLT value is an integer multiple of 2^-1074, so a value is handled exactly as that integer
(`units`), and every operation forms an exact quotient of naturals and rounds it with `round`.
-/
namespace Sys2Proof.Flt

/-- The number of units in 1.0: one unit is 2^-1074, the least positive FLT value. -/
def scale : Nat := 2 ^ 1074

/-- The significand of a magnitude: the fraction, with the hidden bit where the exponent is not 0. -/
def significand (m : Nat) : Nat := if m < 2 ^ 52 then m else 2 ^ 52 + m % 2 ^ 52

/-- The power of two, in units, of the last place of a magnitude. -/
def binade (m : Nat) : Nat := m / 2 ^ 52 - 1

/-- The value of a magnitude, in units of 2^-1074. -/
def units (m : Nat) : Nat := significand m * 2 ^ binade m

/-- The integer nearest to `n / d`, ties to even. -/
def roundHalfEven (n d : Nat) : Nat :=
  let q := n / d
  let r := n % d
  if d < 2 * r ∨ (2 * r = d ∧ q % 2 = 1) then q + 1 else q

/-- The magnitude of `num / den` rounded to nearest even, the exponent unbounded above. A carry out of the
significand runs into the exponent field, where it belongs. -/
def roundMag (num den : Nat) : Nat :=
  let n := num * scale
  let k := Nat.log2 (n / den) - 52
  k * 2 ^ 52 + roundHalfEven n (den * 2 ^ k)

/-- A signed magnitude; from 0x7FF0000000000000 on, the infinity of that sign. -/
def ofMag (neg : Bool) (m : Nat) : Flt :=
  if h : m < 9218868437227405312 then .fin neg ⟨m, h⟩ else .inf neg

/-- The FLT value nearest to `± num / den` (`den` positive), ties to even; beyond the range, infinity. -/
def round (neg : Bool) (num den : Nat) : Flt := ofMag neg (roundMag num den)

/-- The zero of a sign. -/
def zero (neg : Bool) : Flt := .fin neg ⟨0, by decide⟩

/-- `i2f(v)`: the FLT value nearest to an integer, ties to even (R13); 0 gives +0.0. -/
def ofInt (v : Int) : Flt := round (decide (v < 0)) v.natAbs 1

/-- The sign changed. -/
def negate : Flt → Flt
  | .nan => .nan
  | .inf s => .inf (!s)
  | .fin s m => .fin (!s) m

/-- The exact signed value of a finite FLT value, in units. -/
def signedUnits (neg : Bool) (m : Nat) : Int := if neg then -(units m : Int) else (units m : Int)

/-- `fadd`. An exact sum of 0 is +0.0 unless both operands are negative (then both are -0.0). -/
def fadd : Flt → Flt → Flt
  | .nan, _ => .nan
  | .inf _, .nan => .nan
  | .fin _ _, .nan => .nan
  | .inf a, .inf b => if a = b then .inf a else .nan
  | .inf a, .fin _ _ => .inf a
  | .fin _ _, .inf b => .inf b
  | .fin a x, .fin b y =>
    let z := signedUnits a x.val + signedUnits b y.val
    if z = 0 then zero (a && b) else round (decide (z < 0)) z.natAbs scale

/-- `fsub`. -/
def fsub (a b : Flt) : Flt := fadd a (negate b)

/-- `fmul`. -/
def fmul : Flt → Flt → Flt
  | .nan, _ => .nan
  | .inf _, .nan => .nan
  | .fin _ _, .nan => .nan
  | .inf a, .inf b => .inf (a ^^ b)
  | .inf a, .fin b y => if y.val = 0 then .nan else .inf (a ^^ b)
  | .fin a x, .inf b => if x.val = 0 then .nan else .inf (a ^^ b)
  | .fin a x, .fin b y => round (a ^^ b) (units x.val * units y.val) (scale * scale)

/-- `fdiv`. -/
def fdiv : Flt → Flt → Flt
  | .nan, _ => .nan
  | .inf _, .nan => .nan
  | .fin _ _, .nan => .nan
  | .inf _, .inf _ => .nan
  | .inf a, .fin b _ => .inf (a ^^ b)
  | .fin a _, .inf b => zero (a ^^ b)
  | .fin a x, .fin b y =>
    if y.val = 0 then (if x.val = 0 then .nan else .inf (a ^^ b))
    else round (a ^^ b) (units x.val) (units y.val)

/-- The place of a value in the order of FLT; none for a NaN. The two zeros share a place. -/
def rank : Flt → Option Int
  | .nan => none
  | .inf s => some (if s then -9218868437227405312 else 9218868437227405312)
  | .fin s m => some (if s then -(m.val : Int) else (m.val : Int))

/-- The IEEE comparison `a < b`, false if either side is NaN (R13). -/
def lt (a b : Flt) : Bool :=
  match rank a, rank b with
  | some x, some y => decide (x < y)
  | _, _ => false

/-- The value of a bit pattern: sign in bit 63, exponent in bits 62:52, fraction in bits 51:0 (R50). -/
def ofBits (b : BitVec 64) : Flt :=
  let m := b.toNat % 2 ^ 63
  if h : m < 9218868437227405312 then .fin b.msb ⟨m, h⟩
  else if m = 9218868437227405312 then .inf b.msb
  else .nan

/-- The pattern of a NaN, its sign and fraction taken from `fill` (any NaN is some such pattern). -/
def nanPattern (fill : BitVec 64) : BitVec 64 :=
  if fill &&& 0x000FFFFFFFFFFFFF#64 = 0#64 then fill ||| 0x7FF8000000000000#64 else fill ||| 0x7FF0000000000000#64

/-- The bit pattern of a value. The spec fixes no NaN pattern, so `fill` supplies it. -/
def toBits (fill : BitVec 64) : Flt → BitVec 64
  | .nan => nanPattern fill
  | .inf s => BitVec.ofNat 64 (9218868437227405312 + if s then 2 ^ 63 else 0)
  | .fin s m => BitVec.ofNat 64 (m.val + if s then 2 ^ 63 else 0)

/-- The constants of the formulas (R12, R13): a decimal constant denotes the FLT value nearest to it. -/
def c1 : Flt := ofInt 1
def c100 : Flt := ofInt 100
def c256 : Flt := ofInt 256
def c1024 : Flt := ofInt 1024
def c5120 : Flt := ofInt 5120
def c44330 : Flt := ofInt 44330
def c5255m : Flt := round false 5255 1000

end Sys2Proof.Flt
end

