-- ==== Sys2Proof/Syntax.lean ====
section
/-!
DEFINITION. The six commands of the block (30_encoding.md R51; opcode_table.json).
-/
namespace Sys2Proof

/-- A command. The only operand of any command is the sea-level pressure of READ_ALTITUDE, the FLT bit
pattern in `arg` (R52); a format C0 command ignores `arg`, so it carries none (R50; notes/assumptions/17.md). -/
inductive Instr
  | setup
  | softReset
  | readTemperature
  | readPressure
  | readHumidity
  | readAltitude (seaLevelHpa : BitVec 64)
deriving DecidableEq, Repr, Inhabited

end Sys2Proof
end

