-- ==== Sys2Proof/WellFormed.lean ====
section
/-!
DEFINITION. Well-formedness: which command words spell a command (30_encoding.md R50, R53), and which
commands are well formed. Every term of `Instr` is: a C0 command has no operand and READ_ALTITUDE takes any
64-bit pattern (R52, "no range check"), so the one check is on words.
-/
namespace Sys2Proof

/-- `op` of a command word. -/
def CommandWord.op (w : CommandWord) : Byte := w.extractLsb' 64 8

/-- `arg` of a command word. -/
def CommandWord.arg (w : CommandWord) : BitVec 64 := w.extractLsb' 0 64

/-- A word spells a command iff its `op` is 0x00 .. 0x05; 0x06 .. 0xFF are reserved (R53). -/
def CommandWord.wellFormed (w : CommandWord) : Bool := decide (w.op.toNat ≤ 5)

/-- Every command of the syntax is well formed (R50, R52). -/
def Instr.wellFormed : Instr → Bool
  | .setup => true
  | .softReset => true
  | .readTemperature => true
  | .readPressure => true
  | .readHumidity => true
  | .readAltitude _ => true

end Sys2Proof
end

