-- ==== Sys2Proof/Decode.lean ====
section
/-!
DEFINITION. The decoder of command words, the encoder (30_encoding.md R50, R51, R53, R61) and the textual
form of commands (R60).
-/
namespace Sys2Proof

/-- Why a word spells no command. -/
inductive DecodeError
  /-- `op` is 0x06 .. 0xFF (R53). -/
  | reserved (op : Byte)
deriving DecidableEq, Repr

/-- The decoder: it reads `op`, and `arg` only for format C1 (R50). The same word means the same command in
both states of `INIT` (R61). -/
def decode (w : CommandWord) : Except DecodeError Instr :=
  if w.op = 0x00#8 then .ok .setup
  else if w.op = 0x01#8 then .ok .softReset
  else if w.op = 0x02#8 then .ok .readTemperature
  else if w.op = 0x03#8 then .ok .readPressure
  else if w.op = 0x04#8 then .ok .readHumidity
  else if w.op = 0x05#8 then .ok (.readAltitude w.arg)
  else .error (.reserved w.op)

/-- The opcode of a command (R51). -/
def Instr.opcode : Instr → Byte
  | .setup => 0x00#8
  | .softReset => 0x01#8
  | .readTemperature => 0x02#8
  | .readPressure => 0x03#8
  | .readHumidity => 0x04#8
  | .readAltitude _ => 0x05#8

/-- `arg` of a command: format C1 carries the operand; format C0 ignores `arg`, and the encoder writes 0
there (R50; notes/assumptions/17.md). -/
def Instr.argument : Instr → BitVec 64
  | .setup => 0#64
  | .softReset => 0#64
  | .readTemperature => 0#64
  | .readPressure => 0#64
  | .readHumidity => 0#64
  | .readAltitude s => s

/-- The encoder: `op` above `arg` (R50). -/
def encode (i : Instr) : CommandWord := i.opcode ++ i.argument

/-- The word whose bits, numbered as opcode_table.json numbers them, are the low `nbits` bits of `w`, the bits
above them zero. A command is one 72-bit word at the command port, so no byte order enters
(notes/assumptions/2.md). -/
def tableWord (nbits w : Nat) : CommandWord := BitVec.ofNat 72 (w % 2 ^ nbits)

/-- What the decoder reads from a table word. -/
def decodeTableWord (nbits w : Nat) : Option Instr :=
  match decode (tableWord nbits w) with
  | .ok i => some i
  | .error _ => none

/-- Reads decimal digits: the number so far, how many were read, and the rest. -/
def readDigits (acc count : Nat) : List Char → Nat × Nat × List Char
  | [] => (acc, count, [])
  | c :: cs =>
    if 48 ≤ c.toNat ∧ c.toNat ≤ 57 then readDigits (acc * 10 + (c.toNat - 48)) (count + 1) cs
    else (acc, count, c :: cs)

/-- A decimal floating-point literal, `[-]digits[.digits]`, the whole of the text: the FLT value nearest to it
(R60, R13; the grammar is notes/assumptions/18.md). -/
def readLiteral (cs : List Char) : Option Flt :=
  let neg := cs.head? = some '-'
  match readDigits 0 0 (if neg then cs.tail else cs) with
  | (_, 0, _) => none
  | (n, _, []) => some (Flt.round neg n 1)
  | (n, _, '.' :: rest) =>
    match readDigits n 0 rest with
    | (_, 0, _) => none
    | (m, k, []) => some (Flt.round neg m (10 ^ k))
    | _ => none
  | _ => none

/-- The text after a prefix, if the text begins with it. -/
def afterPrefix : List Char → List Char → Option (List Char)
  | [], cs => some cs
  | _ :: _, [] => none
  | p :: ps, c :: cs => if p = c then afterPrefix ps cs else none

/-- One line of the textual form: the source's call syntax, with the pseudo-operation `load(bus)` for
`setup()` (R60). -/
def assemble (line : List Char) : Option Instr :=
  if line = ['s', 'e', 't', 'u', 'p', '(', ')'] then some .setup
  else if line = ['l', 'o', 'a', 'd', '(', 'b', 'u', 's', ')'] then some .setup
  else if line = ['s', 'o', 'f', 't', '_', 'r', 'e', 's', 'e', 't', '(', ')'] then some .softReset
  else if line = ['r', 'e', 'a', 'd', '_', 't', 'e', 'm', 'p', 'e', 'r', 'a', 't', 'u', 'r', 'e', '(', ')'] then
    some .readTemperature
  else if line = ['r', 'e', 'a', 'd', '_', 'p', 'r', 'e', 's', 's', 'u', 'r', 'e', '(', ')'] then some .readPressure
  else if line = ['r', 'e', 'a', 'd', '_', 'h', 'u', 'm', 'i', 'd', 'i', 't', 'y', '(', ')'] then some .readHumidity
  else
    match afterPrefix ['r', 'e', 'a', 'd', '_', 'a', 'l', 't', 'i', 't', 'u', 'd', 'e', '('] line with
    | none => none
    | some rest =>
      if rest.getLast? = some ')' then (readLiteral rest.dropLast).map fun v => .readAltitude (v.toBits 0#64) else none

/-- A program: one command a line (R60). -/
def assembleProgram (lines : List (List Char)) : Option (List Instr) := lines.mapM assemble

end Sys2Proof
end

