-- ==== Sys2Proof/Machine/Arith.lean ====
section
/-!
DEFINITION. The integer arithmetic of the chains (00_scope.md R9, R10, R11). Addition, subtraction,
multiplication and `<<` are the operations of `BitVec W`: the mathematical result reduced by `wrap_W`.
OVERFLOW_POLICY is wrap, as decided (R11, D7; notes/assumptions/11.md): no flag, no error.
-/
namespace Sys2Proof

/-- `v >> n` on a signed value: `floor(v / 2^n)` (R10). -/
def asr {w : Nat} (v : BitVec w) (n : Nat) : BitVec w := BitVec.ofInt w (v.toInt / 2 ^ n)

/-- `sdiv_64(a, b)`, b not 0: signed division truncating toward zero, reduced by `wrap_64` (R10). -/
def sdiv64 (a b : BitVec 64) : BitVec 64 := BitVec.ofInt 64 (Int.tdiv a.toInt b.toInt)

end Sys2Proof
end

