-- ==== Sys2Proof/Machine/RegisterMap.lean ====
section
/-!
DEFINITION. The sensor's register map as the block uses it (20_memory.md R38) and the images SETUP writes to
the control registers (30_encoding.md R59).
-/
namespace Sys2Proof.Machine

/-- Addresses (R38). VERSION is never accessed by any operation; CAL26 is the address of DIG_H2 too. -/
def regChipId : Byte := 0xD0#8
def regVersion : Byte := 0xD1#8
def regSoftReset : Byte := 0xE0#8
def regCal26 : Byte := 0xE1#8
def regControlHumid : Byte := 0xF2#8
def regControl : Byte := 0xF4#8
def regConfig : Byte := 0xF5#8
def regPressureData : Byte := 0xF7#8
def regTempData : Byte := 0xFA#8
def regHumidData : Byte := 0xFD#8
def regDigT1 : Byte := 0x88#8
def regDigP1 : Byte := 0x8E#8
def regDigH1 : Byte := 0xA1#8

/-- Oversampling codes of the control registers (R59). -/
inductive Oversampling
  | skipped | x1 | x2 | x4 | x8 | x16
deriving DecidableEq, Repr

def Oversampling.code : Oversampling → BitVec 3
  | .skipped => 0b000#3
  | .x1 => 0b001#3
  | .x2 => 0b010#3
  | .x4 => 0b011#3
  | .x8 => 0b100#3
  | .x16 => 0b101#3

/-- The sensor's modes as CONTROL selects them (R59; 01 and 10 are both forced). -/
inductive SensorMode
  | sleep | forced | normal
deriving DecidableEq, Repr

def SensorMode.code : SensorMode → BitVec 2
  | .sleep => 0b00#2
  | .forced => 0b01#2
  | .normal => 0b11#2

/-- CONTROLHUMID: reserved 7:3 zero, osrs_h 2:0 (R59). -/
def controlHumidImage (osrsH : Oversampling) : Byte := 0#5 ++ osrsH.code

/-- CONTROL: osrs_t 7:5, osrs_p 4:2, mode 1:0 (R59). -/
def controlImage (osrsT osrsP : Oversampling) (mode : SensorMode) : Byte := osrsT.code ++ osrsP.code ++ mode.code

/-- CONFIG: t_sb 7:5, filter 4:2, reserved 1 zero, spi3w_en 0 (R59). -/
def configImage (tSb filter : BitVec 3) (spi3wEn : Bool) : Byte := tSb ++ filter ++ 0#1 ++ BitVec.ofBool spi3wEn

end Sys2Proof.Machine
end

