-- ==== Sys2Proof/Machine/Registers.lean ====
section
/-!
DEFINITION. The register groups of the block and the values that cross its ports: coefficients
(10_state.md R20), working registers (R24), bus answers and transactions (20_memory.md R36, R44, R48),
responses (30_encoding.md R54), host events.
-/
namespace Sys2Proof.Machine

/-- The 18 coefficient registers `CAL.*` (R20). Signedness is the chains' reading of the bits: T1, P1 u16;
T2, T3, P2 to P9, H2 s16; H1, H3 u8; H4, H5 s16 containers of 12 significant bits; H6 s8. -/
structure Calibration where
  t1 : BitVec 16
  t2 : BitVec 16
  t3 : BitVec 16
  p1 : BitVec 16
  p2 : BitVec 16
  p3 : BitVec 16
  p4 : BitVec 16
  p5 : BitVec 16
  p6 : BitVec 16
  p7 : BitVec 16
  p8 : BitVec 16
  p9 : BitVec 16
  h1 : BitVec 8
  h2 : BitVec 16
  h3 : BitVec 8
  h4 : BitVec 16
  h5 : BitVec 16
  h6 : BitVec 8
deriving DecidableEq, Repr, Inhabited

/-- The working registers of the temperature chain, s64 (R24). -/
structure TempRegs where
  ta : BitVec 64
  tb : BitVec 64
  tsq : BitVec 64
  tv1 : BitVec 64
  tv2 : BitVec 64
deriving DecidableEq, Repr, Inhabited

/-- The working registers of the pressure chain, s64 (R24). -/
structure PressRegs where
  pv : BitVec 64
  acc1 : BitVec 64
  acc2 : BitVec 64
  pnum : BitVec 64
  pq : BitVec 64
  px1 : BitVec 64
  px2 : BitVec 64
  pFix : BitVec 64
deriving DecidableEq, Repr, Inhabited

/-- The working registers of the humidity chain, s32, and `H_FIX`, u32 (R24). -/
structure HumRegs where
  hv : BitVec 32
  ha : BitVec 32
  hb1 : BitVec 32
  hb2 : BitVec 32
  hb3 : BitVec 32
  hb : BitVec 32
  hx : BitVec 32
  hy : BitVec 32
  hz : BitVec 32
  hc : BitVec 32
  hFix : BitVec 32
deriving DecidableEq, Repr, Inhabited

/-- The payload of a `BusError`: opaque to the block, which only passes it on (R6, R153;
notes/assumptions/7.md). -/
abbrev BusErr := Nat

/-- The longest read the block makes: block A, 26 bytes (20_memory.md R42). -/
def maxRead : Nat := 26

/-- What the registers from the addressed one on hold when a read is answered: enough bytes for every read
the block makes, of which a read of n bytes is given the first n (R37; notes/assumptions/6.md). -/
abbrev Window := { bytes : List Byte // bytes.length = maxRead }

/-- The answer of the bus collaborator to one transaction: bytes or completion, or `BusError(e)` (R48). A
write takes no bytes from the answer. -/
inductive BusAnswer
  | ok (w : Window)
  | error (e : BusErr)
deriving DecidableEq, Repr

/-- One bus transaction as the history records it (R44): `R(addr,n)->bytes`, `R(addr,n)!`, `W(addr,v)`,
`W(addr,v)!` of 95_test_vectors.md. -/
inductive BusEvent
  | read (addr : Byte) (bytes : List Byte)
  | readFailed (addr : Byte) (count : Nat) (e : BusErr)
  | wrote (addr value : Byte)
  | writeFailed (addr value : Byte) (e : BusErr)
deriving DecidableEq, Repr

/-- The four error kinds, a closed list (60_exceptions.md R150). -/
inductive ErrorKind
  | deviceNotFound
  | resetTimeout
  | busError (e : BusErr)
  | notInitialized
deriving DecidableEq, Repr

/-- A response (30_encoding.md R54): `Ok`, `Ok(v)`, `Err(kind)`. -/
inductive Response
  | ok
  | value (v : Flt)
  | err (k : ErrorKind)
deriving DecidableEq, Repr

/-- What happens at the block's boundary next, apart from bus answers (notes/assumptions/2.md, 3.md, 20.md). -/
inductive HostEvent
  /-- The host presents a command word and keeps its duties until the response (R182). -/
  | command (w : CommandWord)
  /-- The host presents `second` before the response to `first` (R182). -/
  | overlap (first second : CommandWord)
  /-- Another initiator uses the bus or the sensor while `w` is in flight (R46, R182). -/
  | intrusion (w : CommandWord)
  /-- Power-on reset of the block (70_reset_and_hazards.md R175). -/
  | powerOn
deriving DecidableEq, Repr

end Sys2Proof.Machine
end

