-- ==== Sys2Proof/Config.lean ====
section
/-!
DEFINITION. What an implementation fixes (the parameters of 00_scope.md R6) and the free values: constants
with no body, of which nothing can be proved but their type.
-/
namespace Sys2Proof

/-- The OPEN parameters of R6, "an argument of the model" (notes/assumptions/8.md). T_SETTLE is timing only
(70_reset_and_hazards.md R184) and OVERFLOW_POLICY and FLT are decided (D5, D7; notes/assumptions/11.md, 16.md). -/
structure Params where
  /-- CHIP_ID_EXPECTED -/
  chipIdExpected : Byte
  /-- RESET_MAGIC -/
  resetMagic : Byte
  /-- CTRL_HUM_VALUE -/
  ctrlHumValue : Byte
  /-- CTRL_MEAS_VALUE -/
  ctrlMeasValue : Byte
  /-- CONFIG_VALUE -/
  configValue : Byte
  /-- READY_REG -/
  readyReg : Byte
  /-- READY_MASK -/
  readyMask : Byte
  /-- RESET_POLL_MAX, at least 1 -/
  resetPollMax : Nat
  /-- H45_SIGNED12 -/
  h45Signed12 : Bool
deriving DecidableEq, Repr

/-- RESET_POLL_MAX is a natural number of at least 1 (R6). -/
def Params.wellFormed (p : Params) : Bool := decide (1 ≤ p.resetPollMax)

/-- The defaults of R6, the values of every test vector of 95_test_vectors.md. -/
def Params.default : Params :=
  { chipIdExpected := 0x60#8, resetMagic := 0xB6#8, ctrlHumValue := 0x01#8, ctrlMeasValue := 0x27#8,
    configValue := 0x00#8, readyReg := 0xF3#8, readyMask := 0x01#8, resetPollMax := 1, h45Signed12 := false }

namespace Config

/-- Free: the 26 bytes the collaborator would give at a free answer (20_memory.md R48). -/
opaque freeByte : Nat → Nat → Byte

/-- Free: whether the collaborator fails a transaction, and with which payload (R48, R153). -/
opaque freeError : Nat → Option Machine.BusErr

/-- The answer of the bus collaborator where the state's list gives none: arbitrary bytes or an arbitrary
`BusError`, a fresh one for each index (R48; notes/assumptions/5.md). -/
def freeAnswer (n : Nat) : Machine.BusAnswer :=
  match freeError n with
  | some e => .error e
  | none => .ok ⟨List.ofFn fun i : Fin Machine.maxRead => freeByte n i, List.length_ofFn⟩

/-- Free: `CAL.*` after power-on, "unspecified" (10_state.md R29; notes/assumptions/9.md). -/
opaque powerOnCal : Nat → Machine.Calibration

/-- Free: `T_FINE` after power-on (R29). -/
opaque powerOnTFine : Nat → BitVec 32

/-- Free: `RAW` after power-on (R24: no reset value). -/
opaque powerOnRaw : Nat → BitVec 32

/-- Free: the temperature chain's working registers after power-on (R24). -/
opaque powerOnTemp : Nat → Machine.TempRegs

/-- Free: the pressure chain's working registers after power-on (R24). -/
opaque powerOnPress : Nat → Machine.PressRegs

/-- Free: the humidity chain's working registers after power-on (R24). -/
opaque powerOnHum : Nat → Machine.HumRegs

/-- Free: `F0` after power-on (R24). -/
opaque powerOnF0 : Nat → Flt

/-- Free: `F1` after power-on (R24). -/
opaque powerOnF1 : Nat → Flt

/-- Free: the magnitude the power function gives for x^E, x positive and finite, where P6 allows it (00_scope.md R14;
notes/assumptions/12.md). -/
opaque powNear : Flt → Fin 9218868437227405312

/-- Free: the power function where P2 to P6 fix nothing (R14; notes/assumptions/12.md). -/
opaque powFree : Flt → Flt → Flt

end Config
end Sys2Proof
end

