-- ==== Sys2Proof/Machine/State.lean ====
section
/-!
DEFINITION. The state of the block, the reasons a step can stop, and the state after power-on reset
(10_state.md, 70_reset_and_hazards.md R175).
-/
namespace Sys2Proof.Machine

/-- The machine. INVENTORY.md, '## State', lists each field with the rule that names it. -/
structure State where
  /-- The parameters of the instance; no step writes them (R6, R175). -/
  params : Params
  /-- `INIT`: false is Uninitialized, true is Ready (R22). -/
  init : Bool
  /-- `CAL.*` (R20). -/
  cal : Calibration
  /-- `T_FINE`, s32 (R23). -/
  tFine : BitVec 32
  /-- `RAW`, u32 (R24, 41_sample_unpack.md R93). -/
  raw : BitVec 32
  /-- `TA`, `TB`, `TSQ`, `TV1`, `TV2` (R24). -/
  temp : TempRegs
  /-- `PV`, `ACC1`, `ACC2`, `PNUM`, `PQ`, `PX1`, `PX2`, `P_FIX` (R24). -/
  press : PressRegs
  /-- `HV` to `HC`, `H_FIX` (R24). -/
  hum : HumRegs
  /-- `F0` (R24). -/
  f0 : Flt
  /-- `F1` (R24). -/
  f1 : Flt
  /-- The command port: what the host does next, in order (R60, R182). -/
  events : List HostEvent
  /-- The bus port: what the collaborator answers next, in order (20_memory.md R48). -/
  answers : List BusAnswer
  /-- How many free values have been drawn (the model's own; notes/assumptions/5.md). -/
  nonce : Nat
  /-- The bus port: the transactions made, oldest first (20_memory.md R44). -/
  history : List BusEvent
  /-- The response port: the responses issued, oldest first (30_encoding.md R54). -/
  responses : List Response
deriving DecidableEq, Repr

/-- The reasons the machine stops with a fault: there is none. The error kinds are a closed list and none of
them is a fault of the machine (60_exceptions.md R150): each is a response, after which the block is idle
again (R155). Nothing raises a fault, which is what the spec says. -/
inductive Fault
deriving DecidableEq, Repr

/-- The reasons the model gives no meaning to what is presented. All are safe: the model stops where the spec
defines no behaviour. -/
inductive Refusal
  /-- Raised by `exec` for a command the model leaves out (none is). Safe. -/
  | notModelled (mnemonic : String)
  /-- Raised by `step` for a command word whose `op` is reserved: "A model refuses a reserved word"
  (30_encoding.md R53). Safe. -/
  | reservedCommand (op : Byte)
  /-- Raised by `step` for a command presented before the response to the previous one: "A model gives the
  command port the precondition "block idle" and refuses a command presented otherwise"
  (70_reset_and_hazards.md R182). Safe. -/
  | commandWhileBusy (first second : CommandWord)
  /-- Raised by `step` where another initiator uses the bus during a command, "outside what the spec gives a
  meaning" (20_memory.md R46, R182). Safe. -/
  | busNotExclusive (w : CommandWord)
deriving DecidableEq, Repr

/-- The machine right after power-on reset (R175): Uninitialized, nothing on any port, and free values where
the spec says "unspecified" (notes/assumptions/9.md). The parameters are the defaults of R6
(notes/assumptions/8.md). -/
def State.reset : State :=
  { params := Params.default
    init := false
    cal := Config.powerOnCal 0
    tFine := Config.powerOnTFine 0
    raw := Config.powerOnRaw 0
    temp := Config.powerOnTemp 0
    press := Config.powerOnPress 0
    hum := Config.powerOnHum 0
    f0 := Config.powerOnF0 0
    f1 := Config.powerOnF1 0
    events := []
    answers := []
    nonce := 1
    history := []
    responses := [] }

end Sys2Proof.Machine
end

