-- ==== Sys2Proof/Machine/Ops.lean ====
section
/-!
DEFINITION. The named operations over the state: writes of single registers, the two bus primitives
(00_scope.md R8, 20_memory.md R36), raising an error and responding (60_exceptions.md R155).

A command is written in the order of its rule: an operation that can raise takes the rest of the command as its
last argument and runs it only on success, so the first error ends the command (R158).
-/
namespace Sys2Proof.Machine

/-- `INIT <- b`. -/
def State.setInit (s : State) (b : Bool) : State := { s with init := b }

/-- `CAL <- c`: all 18 coefficient registers in one step (10_state.md R26). -/
def State.setCal (s : State) (c : Calibration) : State := { s with cal := c }

/-- `T_FINE <- v`. -/
def State.setTFine (s : State) (v : BitVec 32) : State := { s with tFine := v }

/-- `RAW <- v`. -/
def State.setRaw (s : State) (v : BitVec 32) : State := { s with raw := v }

/-- Writes the temperature chain's working registers. -/
def State.setTemp (s : State) (r : TempRegs) : State := { s with temp := r }

/-- Writes the pressure chain's working registers. -/
def State.setPress (s : State) (r : PressRegs) : State := { s with press := r }

/-- Writes the humidity chain's working registers. -/
def State.setHum (s : State) (r : HumRegs) : State := { s with hum := r }

/-- `F0 <- v`. -/
def State.setF0 (s : State) (v : Flt) : State := { s with f0 := v }

/-- `F1 <- v`. -/
def State.setF1 (s : State) (v : Flt) : State := { s with f1 := v }

/-- The command port after the event at its head is taken. -/
def State.setEvents (s : State) (es : List HostEvent) : State := { s with events := es }

/-- A transaction enters the history, after all earlier ones (20_memory.md R44). -/
def State.record (s : State) (e : BusEvent) : State := { s with history := s.history ++ [e] }

/-- The block issues a response and is idle again (R54, R155). -/
def State.respond (s : State) (r : Response) : State := { s with responses := s.responses ++ [r] }

/-- `raise K`, the block's whole trap mechanism (R155): the response is `Err(K)`; nothing is saved, no mode
changes, control goes nowhere, and state written before stays written. That no later step of the command runs is
the form of the operations that raise. There is no return operation (R159). -/
def State.raise (s : State) (k : ErrorKind) : State := s.respond (.err k)

/-- What the collaborator answers to the next transaction: the head of its list, else a free answer (R48). -/
def State.nextAnswer (s : State) : BusAnswer :=
  match s.answers with
  | a :: _ => a
  | [] => Config.freeAnswer s.nonce

/-- The state once that answer has been taken. -/
def State.dropAnswer (s : State) : State :=
  match s.answers with
  | _ :: rest => { s with answers := rest }
  | [] => { s with nonce := s.nonce + 1 }

/-- Byte i of the answer to a read of n bytes: the content of register `addr + i` (20_memory.md R37). -/
def Window.get {n : Nat} (w : Window) (h : n ≤ maxRead) (i : Fin n) : Byte :=
  w.val[i.val]'(by rw [w.property]; exact Nat.lt_of_lt_of_le i.isLt h)

/-- `MemRead(addr, n)`: one indivisible transaction that gives exactly n bytes or raises `BusError(e)` with the
collaborator's e unchanged (R8, R37, R42, R153). -/
def State.memRead (s : State) (addr : Byte) (n : Nat) (h : n ≤ maxRead) (k : (Fin n → Byte) → State → State) : State :=
  match s.nextAnswer with
  | .ok w => k (Window.get w h) (s.dropAnswer.record (.read addr (w.val.take n)))
  | .error e => (s.dropAnswer.record (.readFailed addr n e)).raise (.busError e)

/-- `MemWrite(addr, 1, v)`: one indivisible transaction that completes or raises `BusError(e)` (R8, R42, R153). -/
def State.memWrite (s : State) (addr v : Byte) (k : State → State) : State :=
  match s.nextAnswer with
  | .ok _ => k (s.dropAnswer.record (.wrote addr v))
  | .error e => (s.dropAnswer.record (.writeFailed addr v e)).raise (.busError e)

/-- The first step of every measurement command: `if INIT = 0 then raise NotInitialized`, before any bus
transaction (R154). -/
def State.requireReady (s : State) (k : State → State) : State :=
  if s.init then k s else s.raise .notInitialized

/-- Power-on reset (70_reset_and_hazards.md R175): Uninitialized; `CAL`, `T_FINE` and the working registers
unspecified, so free. The parameters are constants of the instance. The ports' records, which are the model's,
are kept (notes/assumptions/14.md, 20.md). -/
def State.powerOnReset (s : State) : State :=
  { s with
    init := false
    cal := Config.powerOnCal s.nonce
    tFine := Config.powerOnTFine s.nonce
    raw := Config.powerOnRaw s.nonce
    temp := Config.powerOnTemp s.nonce
    press := Config.powerOnPress s.nonce
    hum := Config.powerOnHum s.nonce
    f0 := Config.powerOnF0 s.nonce
    f1 := Config.powerOnF1 s.nonce
    nonce := s.nonce + 1 }

/-- The status code of a response (30_encoding.md R54). -/
def Response.status : Response → Byte
  | .ok => 0x00#8
  | .value _ => 0x00#8
  | .err .deviceNotFound => 0x01#8
  | .err .resetTimeout => 0x02#8
  | .err (.busError _) => 0x03#8
  | .err .notInitialized => 0x04#8

/-- The response word, `status` above `value` (R54). `value` is the result of a measurement command that
succeeded; elsewhere, and in the bits of a NaN, it is not specified, and `fill` stands for it
(notes/assumptions/13.md). The payload of a `BusError` travels beside the word, in the response. -/
def Response.word (fill : BitVec 64) (r : Response) : ResponseWord :=
  r.status ++ (match r with | .value v => v.toBits fill | .ok => fill | .err _ => fill)

end Sys2Proof.Machine
end

