-- ==== Sys2Proof/Machine/Operands.lean ====
section
/-!
DEFINITION. The inputs of the chains: raw samples (30_encoding.md R55, 41_sample_unpack.md), 16-bit
coefficients (20_memory.md R39), and the FLT operand of READ_ALTITUDE (R52).
-/
namespace Sys2Proof.Machine

/-- `Unpack20(b)`: byte0<<12 | byte1<<4 | byte2>>4 (R90). -/
def unpack20 (b : Fin 3 → Byte) : BitVec 32 :=
  ((b 0).setWidth 32 <<< 12) ||| ((b 1).setWidth 32 <<< 4) ||| ((b 2).setWidth 32 >>> 4)

/-- `Unpack16(b)`: byte0<<8 | byte1 (R91). -/
def unpack16 (b : Fin 2 → Byte) : BitVec 32 :=
  ((b 0).setWidth 32 <<< 8) ||| (b 1).setWidth 32

/-- A 16-bit coefficient, little-endian: `hi ++ lo` (20_memory.md R39). -/
def le16 (lo hi : Byte) : BitVec 16 := hi ++ lo

/-- The operand of READ_ALTITUDE, used as it stands (R52). -/
def seaLevel (arg : BitVec 64) : Flt := Flt.ofBits arg

/-- `FetchT()`: `RAW` from TEMPDATA, three bytes in one transaction (R92). -/
def State.fetchT (s : State) (k : State → State) : State :=
  s.memRead regTempData 3 (by decide) fun b s => k (s.setRaw (unpack20 b))

/-- `FetchP()`: `RAW` from PRESSUREDATA (R92). -/
def State.fetchP (s : State) (k : State → State) : State :=
  s.memRead regPressureData 3 (by decide) fun b s => k (s.setRaw (unpack20 b))

/-- `FetchH()`: `RAW` from HUMIDDATA, two bytes (R92). -/
def State.fetchH (s : State) (k : State → State) : State :=
  s.memRead regHumidData 2 (by decide) fun b s => k (s.setRaw (unpack16 b))

end Sys2Proof.Machine
end

