-- ==== Sys2Proof/Machine/Flags.lean ====
section
/-!
DEFINITION. The conditions the block tests. It has no condition codes and no sticky status (10_state.md R25):
the one flag is `INIT` (R22), and the data-dependent choices inside a command are those of 60_exceptions.md R169.
-/
namespace Sys2Proof.Machine

/-- The device reports ready: `(byte & READY_MASK) = 0` (40_setup_calibration.md R71). -/
def deviceReady (p : Params) (b : Byte) : Bool := decide (b &&& p.readyMask = 0#8)

/-- The zero-denominator guard of the pressure chain: `ACC1 = 0` (43_pressure.md R113). -/
def zeroDenominator (acc1 : BitVec 64) : Bool := decide (acc1 = 0#64)

/-- The clamp of the humidity chain, a three-way choice by the sign of `HZ` and the signed comparison
`HZ > 419430400` (44_humidity.md R127). -/
def clampHumidity (hz : BitVec 32) : BitVec 32 :=
  if hz.toInt < 0 then 0#32 else if 419430400 < hz.toInt then 419430400#32 else hz

/-- The clamp to [0.0, 100.0] in the floating-point domain (44_humidity.md R128). -/
def clampPercent (v : Flt) : Flt :=
  let v := if v.lt (Flt.zero false) then Flt.zero false else v
  if Flt.c100.lt v then Flt.c100 else v

end Sys2Proof.Machine
end

