-- ==== Sys2Proof/Machine/Temperature.lean ====
section
/-!
DEFINITION. The temperature chain and READ_TEMPERATURE (42_temperature.md).
-/
namespace Sys2Proof.Machine

/-- The steps of `CompT`, in s64 (R100). T1 is unsigned; T2 and T3 are signed. -/
def tempChain (adc : BitVec 32) (t1 t2 t3 : BitVec 16) : TempRegs :=
  let ta := asr (adc.setWidth 64) 3 - (t1.setWidth 64 <<< 1)
  let tv1 := asr (ta * t2.signExtend 64) 11
  let tb := asr (adc.setWidth 64) 4 - t1.setWidth 64
  let tsq := asr (tb * tb) 12
  let tv2 := asr (tsq * t3.signExtend 64) 14
  { ta := ta, tb := tb, tsq := tsq, tv1 := tv1, tv2 := tv2 }

/-- The result of `CompT`, `TV1 + TV2`, as it is written to the s32 register `T_FINE` (R100, R102). -/
def TempRegs.fine (r : TempRegs) : BitVec 32 := (r.tv1 + r.tv2).setWidth 32

/-- `CompT(adc_T, T1, T2, T3)` (R100). -/
def compT (adc : BitVec 32) (c : Calibration) : BitVec 32 := (tempChain adc c.t1 c.t2 c.t3).fine

/-- `ToCelsius(t)` (R101). -/
def toCelsius (t : BitVec 32) : Flt := Flt.fdiv (Flt.ofInt t.toInt) Flt.c5120

/-- `TempRead`, the sub-sequence every measurement command begins with: fetch the sample, run the chain, write
`T_FINE` (R103). -/
def State.tempRead (s : State) (k : State → State) : State :=
  s.fetchT fun s => k ((s.setTemp (tempChain s.raw s.cal.t1 s.cal.t2 s.cal.t3)).setTFine (compT s.raw s.cal))

/-- READ_TEMPERATURE (R103). -/
def execReadTemperature (s : State) : Host.Outcome State Fault Refusal :=
  .next (s.requireReady fun s => s.tempRead fun s => s.respond (.value (toCelsius s.tFine)))

end Sys2Proof.Machine
end

