-- ==== Sys2Proof/Machine/Pressure.lean ====
section
/-!
DEFINITION. The pressure chain and READ_PRESSURE (43_pressure.md).
-/
namespace Sys2Proof.Machine

/-- `PV` (R111). -/
def pressPv (t : BitVec 32) : BitVec 64 := t.signExtend 64 - 128000#64

/-- `ACC2`, the offset term (R111). -/
def pressAcc2 (pv : BitVec 64) (c : Calibration) : BitVec 64 :=
  pv * pv * c.p6.signExtend 64 + ((pv * c.p5.signExtend 64) <<< 17) + (c.p4.signExtend 64 <<< 35)

/-- `ACC1` after the first line of R112. -/
def pressAcc1Sum (pv : BitVec 64) (c : Calibration) : BitVec 64 :=
  asr (pv * pv * c.p3.signExtend 64) 8 + ((pv * c.p2.signExtend 64) <<< 12)

/-- `ACC1`, the denominator (R112). P1 is unsigned. -/
def pressAcc1 (pv : BitVec 64) (c : Calibration) : BitVec 64 :=
  asr (((1#64 <<< 47) + pressAcc1Sum pv c) * c.p1.setWidth 64) 33

/-- `PNUM`, from `PQ = 1048576 - adc_P` (R114). -/
def pressNumerator (adc : BitVec 32) (acc2 : BitVec 64) : BitVec 64 :=
  (((1048576#64 - adc.setWidth 64) <<< 31) - acc2) * 3125#64

/-- `PX1` (R115). -/
def pressX1 (pq : BitVec 64) (c : Calibration) : BitVec 64 := asr (c.p9.signExtend 64 * asr pq 13 * asr pq 13) 25

/-- `PX2` (R115). -/
def pressX2 (pq : BitVec 64) (c : Calibration) : BitVec 64 := asr (c.p8.signExtend 64 * pq) 19

/-- The working registers after `CompP`, in s64 (R110 to R115). If `ACC1` is 0 the chain ends at once with
`P_FIX` 0 and the registers of R114 and R115 keep what they held (R113; notes/assumptions/10.md). `PQ` ends as the
quotient. -/
def pressChain (old : PressRegs) (adc t : BitVec 32) (c : Calibration) : PressRegs :=
  let pv := pressPv t
  let acc2 := pressAcc2 pv c
  let acc1 := pressAcc1 pv c
  if zeroDenominator acc1 then { old with pv := pv, acc2 := acc2, acc1 := acc1, pFix := 0#64 }
  else
    let pnum := pressNumerator adc acc2
    let pq := sdiv64 pnum acc1
    let px1 := pressX1 pq c
    let px2 := pressX2 pq c
    { pv := pv, acc1 := acc1, acc2 := acc2, pnum := pnum, pq := pq, px1 := px1, px2 := px2
      pFix := asr (pq + px1 + px2) 8 + (c.p7.signExtend 64 <<< 4) }

/-- `ToHPa(p)`: two divisions, in this order, not fused (R117). -/
def toHPa (p : BitVec 64) : Flt := Flt.fdiv (Flt.fdiv (Flt.ofInt p.toInt) Flt.c256) Flt.c100

/-- Steps 2 to 4 of READ_PRESSURE, which READ_ALTITUDE performs too: the temperature first, then the pressure
sample and the chain (R118, 45_altitude.md R142). -/
def State.pressRead (s : State) (k : State → State) : State :=
  s.tempRead fun s => s.fetchP fun s => k (s.setPress (pressChain s.press s.raw s.tFine s.cal))

/-- READ_PRESSURE (R118). -/
def execReadPressure (s : State) : Host.Outcome State Fault Refusal :=
  .next (s.requireReady fun s => s.pressRead fun s => s.respond (.value (toHPa s.press.pFix)))

end Sys2Proof.Machine
end

