-- ==== Sys2Proof/Machine/Altitude.lean ====
section
/-!
DEFINITION. The power function and the altitude engine, READ_ALTITUDE (00_scope.md R14, 45_altitude.md).
-/
namespace Sys2Proof.Machine

/-- The exponent `E = fdiv(1.0, 5.255)`, 0x3FC85B95CCD9456C (45_altitude.md R141). -/
def exponentE : Flt := Flt.fdiv Flt.c1 Flt.c5255m

/-- A finite FLT value that is greater than zero. -/
def positiveFinite : Flt → Bool
  | .fin false m => decide (0 < m.val)
  | _ => false

/-- A finite FLT value that is less than zero. -/
def negativeFinite : Flt → Bool
  | .fin true m => decide (0 < m.val)
  | _ => false

/-- A finite FLT value that is not an integer. -/
def fractional : Flt → Bool
  | .fin _ m => decide (Flt.units m.val % Flt.scale ≠ 0)
  | _ => false

/-- The rational number of u units. -/
def unitsValue (u : Nat) : ℚ := (u : ℚ) / (Flt.scale : ℚ)

/-- Whether u units are at most the real number x^y, x and y the magnitudes of positive values: both sides raised to
the power 2^1074, which leaves only rational numbers. A definition to reason with, not to run. -/
def atMostPower (x y u : Nat) : Bool :=
  decide (unitsValue u ^ Flt.scale ≤ unitsValue (Flt.units x) ^ Flt.units y)

/-- Whether u units are at least the real number x^y. -/
def atLeastPower (x y u : Nat) : Bool :=
  decide (unitsValue (Flt.units x) ^ Flt.units y ≤ unitsValue u ^ Flt.scale)

/-- The greatest finite magnitude that is at most the real power x^y. -/
@[irreducible] def powerFloor (x y : Nat) : Nat :=
  Nat.findGreatest (fun m => atMostPower x y (Flt.units m) = true) 9218868437227405311

/-- Whether the magnitude c is within one unit in the last place of the real power x^y, whose last place is that of
the FLT value below it (R14 P6). -/
@[irreducible] def nearPower (x y c : Nat) : Bool :=
  atMostPower x y (Flt.units c - 2 ^ Flt.binade (powerFloor x y)) &&
    atLeastPower x y (Flt.units c + 2 ^ Flt.binade (powerFloor x y))

/-- `pow(x, E)` for a positive finite x: a free value wherever that is within one unit in the last place of the real
x^E, else the FLT value below x^E; so every function that P6 allows, and no other (notes/assumptions/12.md). -/
def powAtE (x : Flt) : Flt :=
  match x, exponentE with
  | .fin _ m, .fin _ e =>
    Flt.ofMag false (if nearPower m.val e.val (Config.powNear x).val then (Config.powNear x).val else powerFloor m.val e.val)
  | _, _ => Config.powFree x exponentE

/-- `pow(x, y)`, the configuration function of R14: P2 to P5 where they apply, P6 at the exponent E, and a free
value elsewhere. A function of its two operands (P1). -/
def pow (x y : Flt) : Flt :=
  if x = Flt.c1 then Flt.c1
  else if x = Flt.zero false ∧ positiveFinite y then Flt.zero false
  else if x = .inf false ∧ (Flt.zero false).lt y then .inf false
  else if negativeFinite x ∧ fractional y then .nan
  else if x = .nan ∧ y ≠ Flt.zero false ∧ y ≠ Flt.zero true then .nan
  else if positiveFinite x ∧ y = exponentE then powAtE x
  else Config.powFree x y

/-- `F0` of `Altitude(p, s)` after its first operation: `fdiv(p, s)` (R141). -/
def altitudeRatio (p s : Flt) : Flt := Flt.fdiv p s

/-- `F1` of `Altitude`: `pow(F0, E)` (R141). -/
def altitudePower (f0 : Flt) : Flt := pow f0 exponentE

/-- `F0` of `Altitude` after its third operation: `fsub(1.0, F1)` (R141). -/
def altitudeRest (f1 : Flt) : Flt := Flt.fsub Flt.c1 f1

/-- The result of `Altitude`: `fmul(44330.0, F0)` (R141). -/
def altitudeScale (f0 : Flt) : Flt := Flt.fmul Flt.c44330 f0

/-- `Altitude(p, s)`: four operations in this order (R141). -/
def altitude (p s : Flt) : Flt := altitudeScale (altitudeRest (altitudePower (altitudeRatio p s)))

/-- The altitude engine: `F0` holds the pressure in hPa on entry (R142 step 5, R141). -/
def State.altitudeEngine (s : State) (sea : Flt) : State :=
  let s := s.setF0 (altitudeRatio s.f0 sea)
  let s := s.setF1 (altitudePower s.f0)
  let s := s.setF0 (altitudeRest s.f1)
  s.respond (.value (altitudeScale s.f0))

/-- READ_ALTITUDE (R142): the whole of READ_PRESSURE, then the formula. The operand is not stored. -/
def execReadAltitude (arg : BitVec 64) (s : State) : Host.Outcome State Fault Refusal :=
  .next (s.requireReady fun s => s.pressRead fun s =>
    (s.setF0 (toHPa s.press.pFix)).altitudeEngine (seaLevel arg))

end Sys2Proof.Machine
end

