-- ==== Sys2Proof/Machine/Humidity.lean ====
section
/-!
DEFINITION. The humidity chain and READ_HUMIDITY (44_humidity.md).
-/
namespace Sys2Proof.Machine

/-- `HA` (R126). -/
def humA (adc hv : BitVec 32) (c : Calibration) : BitVec 32 :=
  asr ((adc <<< 14) - (c.h4.signExtend 32 <<< 20) - c.h5.signExtend 32 * hv + 16384#32) 15

/-- The working registers after `CompH`, in s32 (R126, R127). H1 and H3 are unsigned. -/
def humChain (adc t : BitVec 32) (c : Calibration) : HumRegs :=
  let hv := t - 76800#32
  let ha := humA adc hv c
  let hb1 := asr (hv * c.h6.signExtend 32) 10
  let hb2 := asr (hv * c.h3.setWidth 32) 11 + 32768#32
  let hb3 := asr (hb1 * hb2) 10 + 2097152#32
  let hb := asr (hb3 * c.h2.signExtend 32 + 8192#32) 14
  let hx := ha * hb
  let hy := asr (asr (asr hx 15 * asr hx 15) 7 * c.h1.setWidth 32) 4
  let hz := hx - hy
  let hc := clampHumidity hz
  { hv := hv, ha := ha, hb1 := hb1, hb2 := hb2, hb3 := hb3, hb := hb, hx := hx, hy := hy, hz := hz, hc := hc
    hFix := asr hc 12 }

/-- The value of `ToRH(h)` before its clamp: `F0 <- fdiv(i2f(h), 1024.0)` (R128). -/
def percentOf (h : BitVec 32) : Flt := Flt.fdiv (Flt.ofInt (h.toNat : Int)) Flt.c1024

/-- `ToRH(h)` (R128). -/
def toRH (h : BitVec 32) : Flt := clampPercent (percentOf h)

/-- READ_HUMIDITY (R130); `ToRH` leaves its result in `F0` (R128). -/
def execReadHumidity (s : State) : Host.Outcome State Fault Refusal :=
  .next (s.requireReady fun s => s.tempRead fun s => s.fetchH fun s =>
    let s := s.setHum (humChain s.raw s.tFine s.cal)
    let s := s.setF0 (toRH s.hum.hFix)
    s.respond (.value s.f0))

end Sys2Proof.Machine
end

