-- ==== Sys2Proof/Machine/Setup.lean ====
section
/-!
DEFINITION. SETUP and SOFT_RESET (40_setup_calibration.md).
-/
namespace Sys2Proof.Machine

/-- The probe loop of `ResetSeq`: at most `left` probes of READY_REG; `ResetTimeout` when none of them reported
ready (R71, R152). -/
def State.pollReady (k : State → State) : Nat → State → State
  | 0, s => s.raise .resetTimeout
  | left + 1, s =>
    s.memRead s.params.readyReg 1 (by decide) fun b s => if deviceReady s.params (b 0) then k s else pollReady k left s

/-- `ResetSeq()`: the reset byte, then the probes (R71). The wait T_SETTLE is time only (R184). -/
def State.resetSeq (s : State) (k : State → State) : State :=
  s.memWrite regSoftReset s.params.resetMagic fun s => State.pollReady k s.params.resetPollMax s

/-- dig_H4 and dig_H5: 12 bits, held in an s16 container and sign-extended from bit 11 only where H45_SIGNED12 is
set (R79). -/
def packed12 (signed12 : Bool) (v : BitVec 12) : BitVec 16 :=
  if signed12 then v.signExtend 16 else v.setWidth 16

/-- `CalDecode(A, B)` (R75, R77, R78, R79; layouts 30_encoding.md R56, R57). Pure and total; A[24] is ignored. -/
def calDecode (signed12 : Bool) (a : Fin 26 → Byte) (b : Fin 7 → Byte) : Calibration :=
  { t1 := le16 (a 0) (a 1)
    t2 := le16 (a 2) (a 3)
    t3 := le16 (a 4) (a 5)
    p1 := le16 (a 6) (a 7)
    p2 := le16 (a 8) (a 9)
    p3 := le16 (a 10) (a 11)
    p4 := le16 (a 12) (a 13)
    p5 := le16 (a 14) (a 15)
    p6 := le16 (a 16) (a 17)
    p7 := le16 (a 18) (a 19)
    p8 := le16 (a 20) (a 21)
    p9 := le16 (a 22) (a 23)
    h1 := a 25
    h2 := le16 (b 0) (b 1)
    h3 := b 2
    h4 := packed12 signed12 (((b 3).setWidth 12 <<< 4) ||| ((b 4).setWidth 12 &&& 0x00F#12))
    h5 := packed12 signed12 (((b 5).setWidth 12 <<< 4) ||| ((b 4).setWidth 12 >>> 4))
    h6 := b 6 }

/-- SETUP, steps 4 to 7: both blocks, the decode, the three configuration writes in the order of R76, and `CAL`
and `INIT` together at the end (R72, R74, R80). -/
def State.loadAndConfigure (s : State) : State :=
  s.memRead regDigT1 26 (by decide) fun a s =>
  s.memRead regCal26 7 (by decide) fun b s =>
  s.memWrite regControlHumid s.params.ctrlHumValue fun s =>
  s.memWrite regControl s.params.ctrlMeasValue fun s =>
  s.memWrite regConfig s.params.configValue fun s =>
  ((s.setCal (calDecode s.params.h45Signed12 a b)).setInit true).respond .ok

/-- SETUP as a function of the state (R72). -/
def State.setup (s : State) : State :=
  (s.setInit false).memRead regChipId 1 (by decide) fun id s =>
    if id 0 = s.params.chipIdExpected then s.resetSeq State.loadAndConfigure else s.raise .deviceNotFound

/-- SETUP (R72). -/
def execSetup (s : State) : Host.Outcome State Fault Refusal := .next s.setup

/-- SOFT_RESET (R73): `INIT <- 0`, then `ResetSeq`; allowed in both states. -/
def execSoftReset (s : State) : Host.Outcome State Fault Refusal :=
  .next ((s.setInit false).resetSeq fun s => s.respond .ok)

end Sys2Proof.Machine
end

