-- ==== Sys2Proof/Machine/Dispatch.lean ====
section
/-! DEFINITION. One arm per command. -/

namespace Sys2Proof.Machine

def exec (i : Instr) (s : State) : Host.Outcome State Fault Refusal :=
  match i with
  | .setup => Sys2Proof.Machine.execSetup s
  | .softReset => Sys2Proof.Machine.execSoftReset s
  | .readTemperature => Sys2Proof.Machine.execReadTemperature s
  | .readPressure => Sys2Proof.Machine.execReadPressure s
  | .readHumidity => Sys2Proof.Machine.execReadHumidity s
  | .readAltitude arg => Sys2Proof.Machine.execReadAltitude arg s

end Sys2Proof.Machine
end

