-- ==== Sys2Proof/Machine/Ports.lean ====
section
/-!
DEFINITION. What the block does with the event at its command port.
-/
namespace Sys2Proof.Machine

/-- A command word accepted while the block is idle: a command runs to its response as one transition
(10_state.md R21; notes/assumptions/1.md); a reserved word is refused, with no bus transaction, no state change and
no response (30_encoding.md R53). -/
def runWord (w : CommandWord) (s : State) : Host.Outcome State Fault Refusal :=
  match decode w with
  | .ok i => exec i s
  | .error (.reserved op) => .refused (.reservedCommand op)

/-- One event. The host's breaches of its duties are refused before the command in flight does anything
(70_reset_and_hazards.md R182; notes/assumptions/3.md). -/
def runEvent (e : HostEvent) (s : State) : Host.Outcome State Fault Refusal :=
  match e with
  | .command w => runWord w s
  | .overlap w v => .refused (.commandWhileBusy w v)
  | .intrusion w => .refused (.busNotExclusive w)
  | .powerOn => .next s.powerOnReset

/-- The next event of the command port. With none the block stays as it is: nothing wakes it but a command
(60_exceptions.md R166; notes/assumptions/4.md). -/
def runNext (s : State) : Host.Outcome State Fault Refusal :=
  match s.events with
  | [] => .next s
  | e :: rest => runEvent e (s.setEvents rest)

/-- `s` with the host presenting the command word next. -/
def State.present (s : State) (w : CommandWord) : State := s.setEvents (.command w :: s.events)

end Sys2Proof.Machine
end

