-- ==== Sys2Proof/Machine/Step.lean ====
section
/-!
DEFINITION. One step of the machine: the next event of the command port.
-/
namespace Sys2Proof.Machine

/-- One step: the block takes the event at the command port and completes it. -/
def step (s : State) : Host.Outcome State Fault Refusal := runNext s

/-- `s` with the host presenting the table word next, so that the very next step runs it (notes/assumptions/2.md). -/
def State.withFetchWord (s : State) (nbits w : Nat) : State := s.present (tableWord nbits w)

end Sys2Proof.Machine
end

