-- ==== Sys2Proof/Safety.lean ====
section
/-!
DEFINITION. The terms claims are made in: the accesses the block may make, the invariant of the machine, what a
host can observe, the no-overflow domains, and the chains in unbounded integers.
-/
namespace Sys2Proof.Machine

/-- The reads the block can make, address and byte count (60_exceptions.md R170). -/
def readAllowed (p : Params) (addr : Byte) (n : Nat) : Bool :=
  (addr, n) ∈ [(0xD0#8, 1), (p.readyReg, 1), (0x88#8, 26), (0xE1#8, 7), (0xFA#8, 3), (0xF7#8, 3), (0xFD#8, 2)]

/-- The writes the block can make, address and value (R170 with R71, R76). -/
def writeAllowed (p : Params) (addr v : Byte) : Bool :=
  (addr, v) ∈ [(0xE0#8, p.resetMagic), (0xF2#8, p.ctrlHumValue), (0xF4#8, p.ctrlMeasValue), (0xF5#8, p.configValue)]

/-- A transaction the block can make, whatever its answer (R170). -/
def accessAllowed (p : Params) : BusEvent → Bool
  | .read a bytes => readAllowed p a bytes.length
  | .readFailed a n _ => readAllowed p a n
  | .wrote a v => writeAllowed p a v
  | .writeFailed a v _ => writeAllowed p a v

/-- A transaction of a sample fetch (41_sample_unpack.md R92). -/
def sampleFetch : BusEvent → Bool
  | .read a _ => a ∈ [0xFA#8, 0xF7#8, 0xFD#8]
  | .readFailed a _ _ => a ∈ [0xFA#8, 0xF7#8, 0xFD#8]
  | .wrote _ _ => false
  | .writeFailed _ _ _ => false

/-- The payload of a transaction the collaborator failed. -/
def BusEvent.failure : BusEvent → Option BusErr
  | .read _ _ => none
  | .readFailed _ _ e => some e
  | .wrote _ _ => none
  | .writeFailed _ _ e => some e

/-- The range of a packed coefficient (10_state.md R20): 0 .. 4095, or -2048 .. 2047 where H45_SIGNED12 is set. -/
def packedInRange (signed12 : Bool) (h : BitVec 16) : Prop :=
  if signed12 then -2048 ≤ h.toInt ∧ h.toInt ≤ 2047 else 0 ≤ h.toInt ∧ h.toInt ≤ 4095

/-- `CAL` is the decode of the blocks A and B of the last SETUP, after whose configuration writes only samples have
been fetched (40_setup_calibration.md R80). -/
def State.calFromBus (s : State) : Prop :=
  ∃ (before : List BusEvent) (wa wb : Window) (after : List BusEvent),
    s.history = before ++ [.read 0x88#8 (wa.val.take 26), .read 0xE1#8 (wb.val.take 7),
      .wrote 0xF2#8 s.params.ctrlHumValue, .wrote 0xF4#8 s.params.ctrlMeasValue, .wrote 0xF5#8 s.params.configValue] ++ after ∧
    (∀ e ∈ after, sampleFetch e = true) ∧
    s.cal = calDecode s.params.h45Signed12 (Window.get wa (by decide)) (Window.get wb (by decide))

/-- The invariant of the machine: well-formed parameters, only the accesses of R170, and in the Ready state
coefficients in their ranges that come from the bus (R20, R80). -/
def State.Inv (s : State) : Prop :=
  s.params.wellFormed = true ∧
  (∀ e ∈ s.history, accessAllowed s.params e = true) ∧
  (s.init = true →
    packedInRange s.params.h45Signed12 s.cal.h4 ∧ packedInRange s.params.h45Signed12 s.cal.h5 ∧ s.calFromBus)

/-- Two states no host or bus can tell apart: they may differ in `T_FINE` and the working registers, and in `CAL`
while `INIT` is 0 (10_state.md R23, R24, R26). -/
def State.observablyEqual (s t : State) : Prop :=
  s.params = t.params ∧ s.init = t.init ∧ (s.init = true → s.cal = t.cal) ∧ s.events = t.events ∧
  s.answers = t.answers ∧ s.nonce = t.nonce ∧ s.history = t.history ∧ s.responses = t.responses

/-- Two outcomes no host or bus can tell apart. -/
def outcomesAgree : Host.Outcome State Fault Refusal → Host.Outcome State Fault Refusal → Prop
  | .next s, .next t => s.observablyEqual t
  | .fault a, .fault b => a = b
  | .refused a, .refused b => a = b
  | _, _ => False

/-- A measurement command: one of the four `read_*` commands (00_scope.md R16). -/
def measurement : Instr → Bool
  | .setup => false
  | .softReset => false
  | .readTemperature => true
  | .readPressure => true
  | .readHumidity => true
  | .readAltitude _ => true

/-- The state once the collaborator has answered n transactions. -/
def State.dropAnswers (s : State) : Nat → State
  | 0 => s
  | n + 1 => s.dropAnswer.dropAnswers n

/-- The collaborator answers the next transactions with these, in order (20_memory.md R48); whether from the
state's list or freely does not matter. -/
def State.answersBegin (s : State) : List BusAnswer → Prop
  | [] => True
  | a :: as => s.nextAnswer = a ∧ s.dropAnswer.answersBegin as

/-- What the block asks of the bus (20_memory.md R36). -/
inductive BusRequest
  | read (addr : Byte) (n : Nat)
  | write (addr value : Byte)
deriving DecidableEq, Repr

/-- The transaction of a request that is answered. -/
def BusRequest.answered (w : Window) : BusRequest → BusEvent
  | .read a n => .read a (w.val.take n)
  | .write a v => .wrote a v

/-- The transaction of a request the collaborator fails. -/
def BusRequest.failed (e : BusErr) : BusRequest → BusEvent
  | .read a n => .readFailed a n e
  | .write a v => .writeFailed a v e

/-- The transactions of requests answered in order. -/
def completed (rs : List BusRequest) (ws : List Window) : List BusEvent := List.zipWith (fun r w => r.answered w) rs ws

/-- The requests of `ResetSeq` with this many probes (40_setup_calibration.md R71). -/
def resetRequests (p : Params) (probes : Nat) : List BusRequest :=
  .write 0xE0#8 p.resetMagic :: List.replicate probes (.read p.readyReg 1)

/-- The requests of a SETUP with this many probes (R72). -/
def setupRequests (p : Params) (probes : Nat) : List BusRequest :=
  .read 0xD0#8 1 :: (resetRequests p probes ++ [.read 0x88#8 26, .read 0xE1#8 7, .write 0xF2#8 p.ctrlHumValue,
    .write 0xF4#8 p.ctrlMeasValue, .write 0xF5#8 p.configValue])

/-- The byte a read of one register is given. -/
def firstByte (w : Window) : Byte := Window.get (n := 1) w (by decide) 0

/-- The probe answers `ws`, as far as they go, report not ready before number j and ready at number j. -/
def readyAt (p : Params) (j : Nat) (ws : List Window) : Prop :=
  ∀ i w, ws[i]? = some w → i ≤ j → deviceReady p (firstByte w) = decide (i = j)

/-- No probe answer reports ready. -/
def neverReady (p : Params) (ws : List Window) : Prop := ∀ w ∈ ws, deviceReady p (firstByte w) = false

/-- Which responses a command can give (30_encoding.md R54, 60_exceptions.md R150). -/
def responseAllowed (i : Instr) : Response → Bool
  | .ok => !measurement i
  | .value _ => measurement i
  | .err .deviceNotFound => decide (i = .setup)
  | .err .resetTimeout => !measurement i
  | .err (.busError _) => true
  | .err .notInitialized => measurement i

/-- A mathematical integer that `wrap_W` leaves as it is (00_scope.md R9). -/
def fits (w : Nat) (v : Int) : Prop := -(2 ^ (w - 1)) ≤ v ∧ v < 2 ^ (w - 1)

/-- `CompT` in unbounded integers (42_temperature.md R100). -/
def exactTemp (adc t1 t2 t3 : Int) : Int :=
  (adc / 2 ^ 3 - t1 * 2) * t2 / 2 ^ 11 + ((adc / 2 ^ 4 - t1) * (adc / 2 ^ 4 - t1) / 2 ^ 12) * t3 / 2 ^ 14

/-- `ACC2` in unbounded integers (43_pressure.md R111). -/
def exactAcc2 (pv : Int) (c : Calibration) : Int :=
  pv * pv * c.p6.toInt + pv * c.p5.toInt * 2 ^ 17 + c.p4.toInt * 2 ^ 35

/-- `ACC1` after the first line of R112, in unbounded integers. -/
def exactAcc1Sum (pv : Int) (c : Calibration) : Int := pv * pv * c.p3.toInt / 2 ^ 8 + pv * c.p2.toInt * 2 ^ 12

/-- `ACC1` in unbounded integers (R112). -/
def exactAcc1 (pv : Int) (c : Calibration) : Int := (2 ^ 47 + exactAcc1Sum pv c) * c.p1.toNat / 2 ^ 33

/-- `PNUM` in unbounded integers (R114). -/
def exactNumerator (adc pv : Int) (c : Calibration) : Int := ((1048576 - adc) * 2 ^ 31 - exactAcc2 pv c) * 3125

/-- The quotient `PQ` in unbounded integers (R114). -/
def exactQuotient (adc pv : Int) (c : Calibration) : Int := Int.tdiv (exactNumerator adc pv c) (exactAcc1 pv c)

/-- `PX1` in unbounded integers (R115). -/
def exactX1 (pq : Int) (c : Calibration) : Int := c.p9.toInt * (pq / 2 ^ 13) * (pq / 2 ^ 13) / 2 ^ 25

/-- `PX2` in unbounded integers (R115). -/
def exactX2 (pq : Int) (c : Calibration) : Int := c.p8.toInt * pq / 2 ^ 19

/-- `CompP` in unbounded integers (R110 to R115). -/
def exactPress (adc t : Int) (c : Calibration) : Int :=
  let pv := t - 128000
  if exactAcc1 pv c = 0 then 0
  else
    let pq := exactQuotient adc pv c
    (pq + exactX1 pq c + exactX2 pq c) / 2 ^ 8 + c.p7.toInt * 2 ^ 4

/-- Every mathematical result the pressure chain hands to `wrap_64` (R111 to R115); a right shift of a register
cannot leave it, and those of R114 and R115 count only where the guard lets them be evaluated. -/
def pressResults (adc t : Int) (c : Calibration) : List Int :=
  let pv := t - 128000
  let sum := exactAcc1Sum pv c
  [pv, pv * pv, pv * pv * c.p6.toInt, pv * c.p5.toInt, pv * c.p5.toInt * 2 ^ 17,
    pv * pv * c.p6.toInt + pv * c.p5.toInt * 2 ^ 17, c.p4.toInt * 2 ^ 35, exactAcc2 pv c, pv * pv * c.p3.toInt,
    pv * c.p2.toInt, pv * c.p2.toInt * 2 ^ 12, sum, 2 ^ 47 + sum, (2 ^ 47 + sum) * c.p1.toNat] ++
  if exactAcc1 pv c = 0 then []
  else
    let pq := exactQuotient adc pv c
    [1048576 - adc, (1048576 - adc) * 2 ^ 31, (1048576 - adc) * 2 ^ 31 - exactAcc2 pv c, exactNumerator adc pv c, pq,
      c.p9.toInt * (pq / 2 ^ 13), c.p9.toInt * (pq / 2 ^ 13) * (pq / 2 ^ 13), c.p8.toInt * pq, pq + exactX1 pq c,
      pq + exactX1 pq c + exactX2 pq c, c.p7.toInt * 2 ^ 4, exactPress adc t c]

/-- The no-overflow domain `NOVF_P` (R11, R116): no `wrap_64` of the chain changes its argument. -/
def NovfP (adc t : Int) (c : Calibration) : Prop := ∀ v ∈ pressResults adc t c, fits 64 v

/-- The steps of `CompH` in unbounded integers (44_humidity.md R126), `HA` first. -/
def exactHa (adc hv : Int) (c : Calibration) : Int :=
  (adc * 2 ^ 14 - c.h4.toInt * 2 ^ 20 - c.h5.toInt * hv + 16384) / 2 ^ 15

def exactHb1 (hv : Int) (c : Calibration) : Int := hv * c.h6.toInt / 2 ^ 10

def exactHb2 (hv : Int) (c : Calibration) : Int := hv * c.h3.toNat / 2 ^ 11 + 32768

def exactHb3 (hv : Int) (c : Calibration) : Int := exactHb1 hv c * exactHb2 hv c / 2 ^ 10 + 2097152

def exactHb (hv : Int) (c : Calibration) : Int := (exactHb3 hv c * c.h2.toInt + 8192) / 2 ^ 14

def exactHx (adc hv : Int) (c : Calibration) : Int := exactHa adc hv c * exactHb hv c

def exactHy (adc hv : Int) (c : Calibration) : Int :=
  (exactHx adc hv c / 2 ^ 15) * (exactHx adc hv c / 2 ^ 15) / 2 ^ 7 * c.h1.toNat / 2 ^ 4

/-- `CompH` in unbounded integers (R126, R127). -/
def exactHum (adc t : Int) (c : Calibration) : Int :=
  let hz := exactHx adc (t - 76800) c - exactHy adc (t - 76800) c
  (if hz < 0 then 0 else if 419430400 < hz then 419430400 else hz) / 2 ^ 12

/-- Every mathematical result the humidity chain hands to `wrap_32` (R126). -/
def humResults (adc t : Int) (c : Calibration) : List Int :=
  let hv := t - 76800
  let hx := exactHx adc hv c
  [hv, adc * 2 ^ 14, c.h4.toInt * 2 ^ 20, adc * 2 ^ 14 - c.h4.toInt * 2 ^ 20, c.h5.toInt * hv,
    adc * 2 ^ 14 - c.h4.toInt * 2 ^ 20 - c.h5.toInt * hv, adc * 2 ^ 14 - c.h4.toInt * 2 ^ 20 - c.h5.toInt * hv + 16384,
    hv * c.h6.toInt, hv * c.h3.toNat, exactHb2 hv c, exactHb1 hv c * exactHb2 hv c, exactHb3 hv c,
    exactHb3 hv c * c.h2.toInt, exactHb3 hv c * c.h2.toInt + 8192, hx, (hx / 2 ^ 15) * (hx / 2 ^ 15),
    (hx / 2 ^ 15) * (hx / 2 ^ 15) / 2 ^ 7 * c.h1.toNat, hx - exactHy adc hv c]

/-- The no-overflow domain `NOVF_H` (R11, R129): no `wrap_32` of the chain changes its argument. -/
def NovfH (adc t : Int) (c : Calibration) : Prop := ∀ v ∈ humResults adc t c, fits 32 v

end Sys2Proof.Machine
end

