-- ==== Sys2Proof/Certificates/Slice0/Obligations.lean ====
section
/-!
DEFINITION. The statements for the provers. Each docstring names the rule of spec/ a statement follows.
-/
open Sys2Proof Sys2Proof.Machine

/-! Encoding -/

/-- 30_encoding.md R50, R51: `op` alone selects the command; `arg` is ignored in format C0 and is the operand in
format C1. -/
def Obligations.DecodeReadsOpcodeAndArgument : Prop :=
  ∀ arg : BitVec 64,
    decode (0x00#8 ++ arg) = .ok .setup ∧ decode (0x01#8 ++ arg) = .ok .softReset ∧
    decode (0x02#8 ++ arg) = .ok .readTemperature ∧ decode (0x03#8 ++ arg) = .ok .readPressure ∧
    decode (0x04#8 ++ arg) = .ok .readHumidity ∧ decode (0x05#8 ++ arg) = .ok (.readAltitude arg)

/-- The words of 95_test_vectors.md, programs P1 to P5, decode to their commands. -/
def Obligations.ProgramWordsDecode : Prop :=
  decode 0x000000000000000000#72 = .ok .setup ∧ decode 0x010000000000000000#72 = .ok .softReset ∧
  decode 0x020000000000000000#72 = .ok .readTemperature ∧ decode 0x030000000000000000#72 = .ok .readPressure ∧
  decode 0x040000000000000000#72 = .ok .readHumidity ∧
  decode 0x05408FAA0000000000#72 = .ok (.readAltitude 0x408FAA0000000000#64)

/-- R53: a word with `op` 0x06 .. 0xFF spells no command and is refused: no next state, so no transaction, no change
and no response. -/
def Obligations.ReservedWordIsRefused : Prop :=
  ∀ (s : State) (w : CommandWord) (rest : List HostEvent), 6 ≤ w.op.toNat → s.events = .command w :: rest →
    decode w = .error (.reserved w.op) ∧ step s = .refused (.reservedCommand w.op)

/-- Decoding what the encoder writes gives the command back, with its operand at every value. -/
def Obligations.DecodeOfEncode : Prop :=
  ∀ i : Instr, i.wellFormed = true → decode (encode i) = .ok i

/-- A word that decodes is well formed and keeps its bits: `op` always, and `arg` where the format carries it; and
every well-formed word decodes. -/
def Obligations.DecodedWordKeepsItsBits : Prop :=
  ∀ w : CommandWord,
    (∀ i, decode w = .ok i → w.wellFormed = true ∧ w.op = (encode i).op ∧ (w.op = 0x05#8 → encode i = w)) ∧
    (w.wellFormed = true → ∃ i, decode w = .ok i)

/-! The step -/

/-- A step runs the command the presented word decodes to, on the state with the word taken from the command port;
so does the step after `withFetchWord` (a command is one step: notes/assumptions/1.md, 2.md). -/
def Obligations.StepRunsDecodedCommand : Prop :=
  (∀ (s : State) (w : CommandWord) (i : Instr) (rest : List HostEvent), s.events = .command w :: rest →
    decode w = .ok i → step s = exec i { s with events := rest }) ∧
  (∀ (s : State) (w : CommandWord) (i : Instr), decode w = .ok i → step (s.withFetchWord 72 w.toNat) = exec i s)

/-- 70_reset_and_hazards.md R182: a command presented before the previous response, and a second initiator on the
bus during a command, are refused before the command in flight does anything (notes/assumptions/3.md). -/
def Obligations.StepRefusesBrokenHostDuties : Prop :=
  (∀ (s : State) (w v : CommandWord) (rest : List HostEvent), s.events = .overlap w v :: rest →
    step s = .refused (.commandWhileBusy w v)) ∧
  (∀ (s : State) (w : CommandWord) (rest : List HostEvent), s.events = .intrusion w :: rest →
    step s = .refused (.busNotExclusive w))

/-- Power-on leaves the block Uninitialized, with no transaction and no response of its own, and the parameters as
they were; with nothing presented the block stays as it is (the model's choices, notes/assumptions/4.md, 14.md and
20.md). -/
def Obligations.PowerOnAndIdleSteps : Prop :=
  (∀ (s : State) (rest : List HostEvent), s.events = .powerOn :: rest → ∃ t, step s = .next t ∧ t.init = false ∧
    t.params = s.params ∧ t.history = s.history ∧ t.responses = s.responses ∧ t.events = rest ∧ t.answers = s.answers) ∧
  (∀ s : State, s.events = [] → step s = .next s)

/-- 70_reset_and_hazards.md R175: what the spec gives for the state after power-on reset. -/
def Obligations.ResetIsUninitializedAndIdle : Prop :=
  State.reset.init = false ∧ State.reset.events = [] ∧ State.reset.history = [] ∧ State.reset.responses = []

/-! SETUP and SOFT_RESET -/

/-- 40_setup_calibration.md R72: a SETUP whose transactions succeed, whose identity matches and whose probe number j
(counting from 0, below RESET_POLL_MAX) is the first to report ready. -/
def Obligations.SetupCompletes : Prop :=
  ∀ (s : State) (ws : List Window) (wa wb : Window) (j : Nat),
    s.answersBegin (ws.map .ok) → ws.length = j + 8 → j < s.params.resetPollMax →
    (ws.head?.map firstByte = some s.params.chipIdExpected) → readyAt s.params j ((ws.drop 2).take (j + 1)) →
    ws[j + 3]? = some wa → ws[j + 4]? = some wb →
    exec .setup s = .next { s.dropAnswers (j + 8) with
      init := true
      cal := calDecode s.params.h45Signed12 (Window.get wa (by decide)) (Window.get wb (by decide))
      history := s.history ++ completed (setupRequests s.params (j + 1)) ws
      responses := s.responses ++ [.ok] }

/-- 60_exceptions.md R153, R158 for SETUP: the collaborator fails transaction number n (n answered before it, probe
number j the first to report ready if the probes went so far). The requests after it are not issued. -/
def Obligations.SetupStopsAtFirstBusError : Prop :=
  ∀ (s : State) (ws : List Window) (e : BusErr) (j : Nat) (r : BusRequest),
    s.answersBegin (ws.map .ok ++ [.error e]) → j < s.params.resetPollMax →
    (∀ w, ws.head? = some w → firstByte w = s.params.chipIdExpected) →
    readyAt s.params j ((ws.drop 2).take (j + 1)) → (setupRequests s.params (j + 1))[ws.length]? = some r →
    exec .setup s = .next { s.dropAnswers (ws.length + 1) with
      init := false
      history := s.history ++ completed (setupRequests s.params (j + 1)) ws ++ [r.failed e]
      responses := s.responses ++ [.err (.busError e)] }

/-- 60_exceptions.md R151: a CHIPID byte other than CHIP_ID_EXPECTED; and, if that read fails, BusError instead. -/
def Obligations.SetupRejectsWrongIdentity : Prop :=
  (∀ (s : State) (w : Window), s.nextAnswer = .ok w → firstByte w ≠ s.params.chipIdExpected →
    exec .setup s = .next { s.dropAnswer with
      init := false
      history := s.history ++ [.read 0xD0#8 (w.val.take 1)]
      responses := s.responses ++ [.err .deviceNotFound] }) ∧
  (∀ (s : State) (e : BusErr), s.nextAnswer = .error e →
    exec .setup s = .next { s.dropAnswer with
      init := false
      history := s.history ++ [.readFailed 0xD0#8 1 e]
      responses := s.responses ++ [.err (.busError e)] })

/-- 60_exceptions.md R152, for both commands that raise it: RESET_POLL_MAX successful probes, none of them ready. -/
def Obligations.ResetTimeoutAfterAllProbes : Prop :=
  (∀ (s : State) (wid wr : Window) (ps : List Window), s.answersBegin ((wid :: wr :: ps).map .ok) →
    firstByte wid = s.params.chipIdExpected → ps.length = s.params.resetPollMax → neverReady s.params ps →
    exec .setup s = .next { s.dropAnswers (ps.length + 2) with
      init := false
      history := s.history ++ completed (.read 0xD0#8 1 :: resetRequests s.params ps.length) (wid :: wr :: ps)
      responses := s.responses ++ [.err .resetTimeout] }) ∧
  (∀ (s : State) (wr : Window) (ps : List Window), s.answersBegin ((wr :: ps).map .ok) →
    ps.length = s.params.resetPollMax → neverReady s.params ps →
    exec .softReset s = .next { s.dropAnswers (ps.length + 1) with
      init := false
      history := s.history ++ completed (resetRequests s.params ps.length) (wr :: ps)
      responses := s.responses ++ [.err .resetTimeout] })

/-- 40_setup_calibration.md R73: SOFT_RESET, in either state, answered ready at probe number j; and failed by the
collaborator at transaction number n. -/
def Obligations.SoftResetCompletesOrStops : Prop :=
  (∀ (s : State) (wr : Window) (ps : List Window) (j : Nat), s.answersBegin ((wr :: ps).map .ok) →
    ps.length = j + 1 → j < s.params.resetPollMax → readyAt s.params j ps →
    exec .softReset s = .next { s.dropAnswers (j + 2) with
      init := false
      history := s.history ++ completed (resetRequests s.params (j + 1)) (wr :: ps)
      responses := s.responses ++ [.ok] }) ∧
  (∀ (s : State) (ws : List Window) (e : BusErr) (r : BusRequest), s.answersBegin (ws.map .ok ++ [.error e]) →
    neverReady s.params (ws.drop 1) → (resetRequests s.params s.params.resetPollMax)[ws.length]? = some r →
    exec .softReset s = .next { s.dropAnswers (ws.length + 1) with
      init := false
      history := s.history ++ completed (resetRequests s.params s.params.resetPollMax) ws ++ [r.failed e]
      responses := s.responses ++ [.err (.busError e)] })

/-- What SETUP and SOFT_RESET leave alone, whatever the bus answers: the parameters, the command port, `T_FINE` and
every working register; the coefficients too, but for a SETUP that succeeds; and what the history and the responses
held before. -/
def Obligations.SetupAndSoftResetFrame : Prop :=
  ∀ (i : Instr) (s t : State), (i = .setup ∨ i = .softReset) → exec i s = .next t →
    t.params = s.params ∧ t.events = s.events ∧ t.tFine = s.tFine ∧ t.raw = s.raw ∧ t.temp = s.temp ∧
    t.press = s.press ∧ t.hum = s.hum ∧ t.f0 = s.f0 ∧ t.f1 = s.f1 ∧ (t.init = false → t.cal = s.cal) ∧
    (i = .softReset → t.init = false) ∧ (∃ evs, t.history = s.history ++ evs) ∧ ∃ r, t.responses = s.responses ++ [r]

/-! The calibration decode -/

/-- 40_setup_calibration.md R77: the temperature and pressure coefficients, little-endian, with their signs. -/
def Obligations.TemperatureAndPressureCoefficients : Prop :=
  let unsigned (lo hi : Byte) : Int := hi.toNat * 256 + lo.toNat
  let signed (lo hi : Byte) : Int := if hi.toNat < 128 then hi.toNat * 256 + lo.toNat else hi.toNat * 256 + lo.toNat - 65536
  ∀ (g : Bool) (a : Fin 26 → Byte) (b : Fin 7 → Byte), let c := calDecode g a b
    (c.t1.toNat : Int) = unsigned (a 0) (a 1) ∧ c.t2.toInt = signed (a 2) (a 3) ∧ c.t3.toInt = signed (a 4) (a 5) ∧
    (c.p1.toNat : Int) = unsigned (a 6) (a 7) ∧ c.p2.toInt = signed (a 8) (a 9) ∧ c.p3.toInt = signed (a 10) (a 11) ∧
    c.p4.toInt = signed (a 12) (a 13) ∧ c.p5.toInt = signed (a 14) (a 15) ∧ c.p6.toInt = signed (a 16) (a 17) ∧
    c.p7.toInt = signed (a 18) (a 19) ∧ c.p8.toInt = signed (a 20) (a 21) ∧ c.p9.toInt = signed (a 22) (a 23)

/-- 40_setup_calibration.md R78: the plain humidity coefficients. -/
def Obligations.PlainHumidityCoefficients : Prop :=
  ∀ (g : Bool) (a : Fin 26 → Byte) (b : Fin 7 → Byte), let c := calDecode g a b
    c.h1.toNat = (a 25).toNat ∧ c.h3.toNat = (b 2).toNat ∧
    c.h2.toInt = (if (b 1).toNat < 128 then ((b 1).toNat * 256 + (b 0).toNat : Int)
      else (b 1).toNat * 256 + (b 0).toNat - 65536) ∧
    c.h6.toInt = (if (b 6).toNat < 128 then ((b 6).toNat : Int) else (b 6).toNat - 256)

/-- 40_setup_calibration.md R79: the packed humidity coefficients under both settings of H45_SIGNED12, when the
settings differ, and that the setting never changes what H4 contributes but can change what H5 does. -/
def Obligations.PackedHumidityCoefficients : Prop :=
  (∀ (a : Fin 26 → Byte) (b : Fin 7 → Byte),
    let h4 : Int := (b 3).toNat * 16 + (b 4).toNat % 16
    let h5 : Int := (b 5).toNat * 16 + (b 4).toNat / 16
    (calDecode false a b).h4.toInt = h4 ∧ (calDecode false a b).h5.toInt = h5 ∧
    (calDecode true a b).h4.toInt = (if 2048 ≤ h4 then h4 - 4096 else h4) ∧
    (calDecode true a b).h5.toInt = (if 2048 ≤ h5 then h5 - 4096 else h5) ∧
    (calDecode false a b ≠ calDecode true a b ↔ 128 ≤ (b 3).toNat ∨ 128 ≤ (b 5).toNat) ∧
    (∀ (adc t : BitVec 32) (c : Calibration), humChain adc t { c with h4 := (calDecode false a b).h4 } =
      humChain adc t { c with h4 := (calDecode true a b).h4 })) ∧
  (∃ (a : Fin 26 → Byte) (b : Fin 7 → Byte) (adc t : BitVec 32) (c : Calibration),
    (humChain adc t { c with h5 := (calDecode false a b).h5 }).hFix ≠
      (humChain adc t { c with h5 := (calDecode true a b).h5 }).hFix)

/-- 40_setup_calibration.md R75: A[24] (register 0xA0) is ignored. -/
def Obligations.CalDecodeIgnoresRegisterA0 : Prop :=
  ∀ (g : Bool) (a a' : Fin 26 → Byte) (b : Fin 7 → Byte), (∀ i : Fin 26, i ≠ 24 → a i = a' i) →
    calDecode g a b = calDecode g a' b

/-! The sample unpacker -/

/-- 41_sample_unpack.md R90: the 20-bit sample, most significant byte first, its range, the low nibble of the third
byte discarded, and that the fetches write it to `RAW`. -/
def Obligations.TwentyBitSample : Prop :=
  ∀ b : Fin 3 → Byte,
    (unpack20 b).toNat = (b 0).toNat * 2 ^ 12 + (b 1).toNat * 2 ^ 4 + (b 2).toNat / 2 ^ 4 ∧
    (unpack20 b).toNat ≤ 1048575 ∧
    (∀ b' : Fin 3 → Byte, b' 0 = b 0 → b' 1 = b 1 → (b' 2).toNat / 16 = (b 2).toNat / 16 → unpack20 b' = unpack20 b) ∧
    ∀ (s : State) (k : State → State) (w : Window), s.nextAnswer = .ok w → Window.get w (by decide) = b →
      s.fetchT k = k { s.dropAnswer with raw := unpack20 b, history := s.history ++ [.read 0xFA#8 (w.val.take 3)] } ∧
      s.fetchP k = k { s.dropAnswer with raw := unpack20 b, history := s.history ++ [.read 0xF7#8 (w.val.take 3)] }

/-- 41_sample_unpack.md R91: the 16-bit sample, its range, and that the fetch writes it to `RAW`. -/
def Obligations.SixteenBitSample : Prop :=
  ∀ b : Fin 2 → Byte, (unpack16 b).toNat = (b 0).toNat * 256 + (b 1).toNat ∧ (unpack16 b).toNat ≤ 65535 ∧
    ∀ (s : State) (k : State → State) (w : Window), s.nextAnswer = .ok w → Window.get w (by decide) = b →
      s.fetchH k = k { s.dropAnswer with raw := unpack16 b, history := s.history ++ [.read 0xFD#8 (w.val.take 2)] }

/-! Integer arithmetic -/

/-- 00_scope.md R10: the shifts and the division of the chains. -/
def Obligations.ShiftAndDivisionLaws : Prop :=
  (∀ (w n : Nat) (v : BitVec w), 0 < w → (asr v n).toInt * 2 ^ n ≤ v.toInt ∧ v.toInt < ((asr v n).toInt + 1) * 2 ^ n) ∧
  (∀ (w n : Nat) (v : BitVec w), (v >>> n).toNat = v.toNat / 2 ^ n) ∧
  (∀ (w n : Nat) (v : BitVec w), (v <<< n).toInt = (v.toInt * 2 ^ n).bmod (2 ^ w) ∧
    (v <<< n).toNat = v.toNat * 2 ^ n % 2 ^ w) ∧
  (∀ a b : BitVec 64, b ≠ 0#64 → (a.toInt ≠ -(2 ^ 63) ∨ b.toInt ≠ -1) →
    (sdiv64 a b).toInt = a.toInt.sign * b.toInt.sign * (a.toInt.natAbs / b.toInt.natAbs : Nat)) ∧
  sdiv64 (BitVec.ofInt 64 (-(2 ^ 63))) (BitVec.ofInt 64 (-1)) = BitVec.ofInt 64 (-(2 ^ 63))

/-! The temperature chain -/

/-- READ_TEMPERATURE, whatever the state and the bus (42_temperature.md R103). What `RAW` and `TA` to `TV2` hold once the
command has ended, and that `F0` and `F1` are not written, is the model's choice, notes/assumptions/10.md: R24 gives
those registers no life beyond the command. -/
def Obligations.ReadTemperatureResult : Prop :=
  (∀ arg : BitVec 64, decode (0x02#8 ++ arg) = .ok .readTemperature) ∧
  (∀ s : State, s.init = false →
    exec .readTemperature s = .next { s with responses := s.responses ++ [.err .notInitialized] }) ∧
  (∀ (s : State) (e : BusErr), s.init = true → s.answersBegin [.error e] →
    exec .readTemperature s = .next { s.dropAnswers 1 with
      history := s.history ++ [.readFailed 0xFA#8 3 e], responses := s.responses ++ [.err (.busError e)] }) ∧
  (∀ (s : State) (w : Window), s.init = true → s.answersBegin [.ok w] →
    let raw := unpack20 (Window.get w (by decide))
    exec .readTemperature s = .next { s.dropAnswers 1 with
      raw := raw, temp := tempChain raw s.cal.t1 s.cal.t2 s.cal.t3, tFine := compT raw s.cal
      history := s.history ++ [.read 0xFA#8 (w.val.take 3)]
      responses := s.responses ++ [.value (toCelsius (compT raw s.cal))] })

/-- 42_temperature.md R100: every working register of the chain is the unbounded-integer step and lies in the range the
rule gives it, the result lies in -4194224 .. 4194144, and both ends are reached (R102). -/
def Obligations.TemperatureChainIsExact : Prop :=
  (∀ (adc : BitVec 32) (t1 t2 t3 : BitVec 16), adc.toNat < 2 ^ 20 →
    let r := tempChain adc t1 t2 t3
    r.ta.toInt = (adc.toNat : Int) / 2 ^ 3 - t1.toNat * 2 ∧ r.tv1.toInt = r.ta.toInt * t2.toInt / 2 ^ 11 ∧
    r.tb.toInt = (adc.toNat : Int) / 2 ^ 4 - t1.toNat ∧ r.tsq.toInt = r.tb.toInt * r.tb.toInt / 2 ^ 12 ∧
    r.tv2.toInt = r.tsq.toInt * t3.toInt / 2 ^ 14 ∧ r.fine.toInt = r.tv1.toInt + r.tv2.toInt ∧
    (-131070 ≤ r.ta.toInt ∧ r.ta.toInt ≤ 131071) ∧ (-2097136 ≤ r.tv1.toInt ∧ r.tv1.toInt ≤ 2097120) ∧
    (-65535 ≤ r.tb.toInt ∧ r.tb.toInt ≤ 65535) ∧ (0 ≤ r.tsq.toInt ∧ r.tsq.toInt ≤ 1048544) ∧
    (-2097088 ≤ r.tv2.toInt ∧ r.tv2.toInt ≤ 2097024) ∧
    r.fine.toInt = exactTemp adc.toNat t1.toNat t2.toInt t3.toInt ∧
    -4194224 ≤ r.fine.toInt ∧ r.fine.toInt ≤ 4194144) ∧
  (tempChain 1048575#32 0#16 0x8000#16 0x8000#16).fine.toInt = -4194224 ∧
  (tempChain 0#32 0xFFFF#16 0x8000#16 0x7FFF#16).fine.toInt = 4194144

/-- 42_temperature.md R101: `ToCelsius` rounds the real quotient t / 5120 once. -/
def Obligations.CelsiusIsRoundedOnce : Prop :=
  ∀ t : BitVec 32, toCelsius t = Flt.round (decide (t.toInt < 0)) t.toInt.natAbs 5120

/-- 42_temperature.md R104: with the example coefficients T1, T2, T3 = 27504, 26435, -1000 the fine temperature never
decreases as the sample grows, and it lies in -40 to 85 degrees exactly for the samples 313712 .. 712479. -/
def Obligations.ExampleTemperatureIsMonotone : Prop :=
  ∀ c : Calibration, c.t1 = 27504#16 → c.t2 = 26435#16 → c.t3 = BitVec.ofInt 16 (-1000) →
    (∀ a b : BitVec 32, a.toNat ≤ b.toNat → b.toNat < 2 ^ 20 → (compT a c).toInt ≤ (compT b c).toInt) ∧
    (∀ a : BitVec 32, a.toNat < 2 ^ 20 → ((-40 * 5120 ≤ (compT a c).toInt ∧ (compT a c).toInt ≤ 85 * 5120) ↔
      313712 ≤ a.toNat ∧ a.toNat ≤ 712479))

/-! The pressure chain -/

/-- READ_PRESSURE, whatever the state and the bus (43_pressure.md R118). What `RAW` and the temperature and pressure
working registers hold once the command has ended, and that `F0` and `F1` are not written, is the model's choice,
notes/assumptions/10.md. -/
def Obligations.ReadPressureResult : Prop :=
  (∀ arg : BitVec 64, decode (0x03#8 ++ arg) = .ok .readPressure) ∧
  (∀ s : State, s.init = false →
    exec .readPressure s = .next { s with responses := s.responses ++ [.err .notInitialized] }) ∧
  (∀ (s : State) (e : BusErr), s.init = true → s.answersBegin [.error e] →
    exec .readPressure s = .next { s.dropAnswers 1 with
      history := s.history ++ [.readFailed 0xFA#8 3 e], responses := s.responses ++ [.err (.busError e)] }) ∧
  (∀ (s : State) (w : Window) (e : BusErr), s.init = true → s.answersBegin [.ok w, .error e] →
    let raw := unpack20 (Window.get w (by decide))
    exec .readPressure s = .next { s.dropAnswers 2 with
      raw := raw, temp := tempChain raw s.cal.t1 s.cal.t2 s.cal.t3, tFine := compT raw s.cal
      history := s.history ++ [.read 0xFA#8 (w.val.take 3), .readFailed 0xF7#8 3 e]
      responses := s.responses ++ [.err (.busError e)] }) ∧
  (∀ (s : State) (w v : Window), s.init = true → s.answersBegin [.ok w, .ok v] →
    let first := unpack20 (Window.get w (by decide))
    let raw := unpack20 (Window.get v (by decide))
    let r := pressChain s.press raw (compT first s.cal) s.cal
    exec .readPressure s = .next { s.dropAnswers 2 with
      raw := raw, temp := tempChain first s.cal.t1 s.cal.t2 s.cal.t3, tFine := compT first s.cal, press := r
      history := s.history ++ [.read 0xFA#8 (w.val.take 3), .read 0xF7#8 (v.val.take 3)]
      responses := s.responses ++ [.value (toHPa r.pFix)] })

/-- The zero-denominator guard: what it gives, when it applies, and that P1 = 0 is such a case (43_pressure.md R113). That
`PNUM`, `PQ`, `PX1` and `PX2` keep what they held is the model's reading, notes/assumptions/10.md. -/
def Obligations.ZeroDenominatorGuard : Prop :=
  (∀ (old : PressRegs) (adc t : BitVec 32) (c : Calibration), pressAcc1 (pressPv t) c = 0#64 →
    pressChain old adc t c = { old with
      pv := pressPv t, acc2 := pressAcc2 (pressPv t) c, acc1 := 0#64, pFix := 0#64 } ∧
    toHPa (pressChain old adc t c).pFix = Flt.zero false) ∧
  (∀ (pv : BitVec 64) (c : Calibration), let product := (((1#64 <<< 47) + pressAcc1Sum pv c) * c.p1.setWidth 64).toInt
    pressAcc1 pv c = 0#64 ↔ 0 ≤ product ∧ product ≤ 2 ^ 33 - 1) ∧
  (∀ (pv : BitVec 64) (c : Calibration), c.p1 = 0#16 → pressAcc1 pv c = 0#64) ∧
  (∀ (s : State) (w v : Window), s.init = true → s.answersBegin [.ok w, .ok v] →
    pressAcc1 (pressPv (compT (unpack20 (Window.get w (by decide))) s.cal)) s.cal = 0#64 →
    ∃ t, exec .readPressure s = .next t ∧ t.press.pFix = 0#64 ∧ t.responses = s.responses ++ [.value (Flt.zero false)] ∧
      t.history = s.history ++ [.read 0xFA#8 (w.val.take 3), .read 0xF7#8 (v.val.take 3)])

/-- 43_pressure.md R111, R112: for a fine temperature in `CompT`'s range the offset term and the first line of the
denominator do not wrap, and the denominator always lies in -2^30 .. 2^30 - 1. -/
def Obligations.PressureAccumulators : Prop :=
  (∀ (t : BitVec 32) (c : Calibration), -4194224 ≤ t.toInt → t.toInt ≤ 4194144 →
    (pressPv t).toInt = t.toInt - 128000 ∧ (pressAcc2 (pressPv t) c).toInt = exactAcc2 (t.toInt - 128000) c ∧
    (pressAcc1Sum (pressPv t) c).toInt = exactAcc1Sum (t.toInt - 128000) c) ∧
  (∀ (pv : BitVec 64) (c : Calibration), -(2 ^ 30) ≤ (pressAcc1 pv c).toInt ∧ (pressAcc1 pv c).toInt ≤ 2 ^ 30 - 1)

/-- 00_scope.md R11 for the pressure chain: inside `NOVF_P` the result equals that in unbounded integers. -/
def Obligations.PressureChainExactInsideNovf : Prop :=
  ∀ (old : PressRegs) (adc t : BitVec 32) (c : Calibration), NovfP adc.toNat t.toInt c →
    (pressChain old adc t c).pFix.toInt = exactPress adc.toNat t.toInt c

/-- 43_pressure.md R116: for a fine temperature in `CompT`'s range and a 20-bit sample, the conditions (a) to (d) put
the input in `NOVF_P`. -/
def Obligations.PressureNoOverflowConditions : Prop :=
  ∀ (adc t : Int) (c : Calibration), 0 ≤ adc → adc ≤ 1048575 → -4194224 ≤ t → t ≤ 4194144 →
    let pv := t - 128000
    let pq := exactQuotient adc pv c
    |2 ^ 47 + exactAcc1Sum pv c| * (c.p1.toNat : Int) ≤ 2 ^ 63 - 1 →
    (exactAcc1 pv c ≠ 0 →
      |(1048576 - adc) * 2 ^ 31 - exactAcc2 pv c| ≤ 2951479051793528 ∧
      |c.p9.toInt| * (pq / 2 ^ 13) ^ 2 ≤ 2 ^ 63 - 1 ∧ |c.p8.toInt * pq| ≤ 2 ^ 63 - 1 ∧
      |pq + exactX1 pq c + exactX2 pq c| ≤ 2 ^ 63 - 1 ∧ |exactPress adc t c| ≤ 2 ^ 63 - 1) →
    NovfP adc t c

/-- 43_pressure.md R119: with the example coefficients and fine temperature 128422 the pressure never rises with the
sample, and it lies in 300 to 1100 hPa (25600 units each) exactly for the samples 361089 .. 829551. -/
def Obligations.ExamplePressureIsMonotone : Prop :=
  ∀ (old : PressRegs) (c : Calibration), c.p1 = 36477#16 → c.p2 = BitVec.ofInt 16 (-10685) → c.p3 = 3024#16 →
    c.p4 = 2855#16 → c.p5 = 140#16 → c.p6 = BitVec.ofInt 16 (-7) → c.p7 = 15500#16 →
    c.p8 = BitVec.ofInt 16 (-14600) → c.p9 = 6000#16 →
    let p (adc : BitVec 32) := (pressChain old adc 128422#32 c).pFix.toInt
    (∀ a b : BitVec 32, a.toNat ≤ b.toNat → b.toNat < 2 ^ 20 → p b ≤ p a) ∧
    (∀ a : BitVec 32, a.toNat < 2 ^ 20 → ((300 * 25600 ≤ p a ∧ p a ≤ 1100 * 25600) ↔
      361089 ≤ a.toNat ∧ a.toNat ≤ 829551))

/-- 43_pressure.md R117: for |p| up to 2^53 the conversion and the division by 256.0 are exact, so that `ToHPa` rounds
p / 25600 once. -/
def Obligations.HectopascalIsRoundedOnce : Prop :=
  ∀ p : BitVec 64, p.toInt.natAbs ≤ 2 ^ 53 → toHPa p = Flt.round (decide (p.toInt < 0)) p.toInt.natAbs 25600

/-! The humidity chain -/

/-- READ_HUMIDITY, whatever the state and the bus (44_humidity.md R130, R128). That `F0` ends as `ToRH(H_FIX)`, that `F1` is
not written, and what `RAW` and the temperature and humidity working registers hold once the command has ended, is the
model's choice, notes/assumptions/10.md. -/
def Obligations.ReadHumidityResult : Prop :=
  (∀ arg : BitVec 64, decode (0x04#8 ++ arg) = .ok .readHumidity) ∧
  (∀ s : State, s.init = false →
    exec .readHumidity s = .next { s with responses := s.responses ++ [.err .notInitialized] }) ∧
  (∀ (s : State) (e : BusErr), s.init = true → s.answersBegin [.error e] →
    exec .readHumidity s = .next { s.dropAnswers 1 with
      history := s.history ++ [.readFailed 0xFA#8 3 e], responses := s.responses ++ [.err (.busError e)] }) ∧
  (∀ (s : State) (w : Window) (e : BusErr), s.init = true → s.answersBegin [.ok w, .error e] →
    let raw := unpack20 (Window.get w (by decide))
    exec .readHumidity s = .next { s.dropAnswers 2 with
      raw := raw, temp := tempChain raw s.cal.t1 s.cal.t2 s.cal.t3, tFine := compT raw s.cal
      history := s.history ++ [.read 0xFA#8 (w.val.take 3), .readFailed 0xFD#8 2 e]
      responses := s.responses ++ [.err (.busError e)] }) ∧
  (∀ (s : State) (w v : Window), s.init = true → s.answersBegin [.ok w, .ok v] →
    let first := unpack20 (Window.get w (by decide))
    let raw := unpack16 (Window.get v (by decide))
    let r := humChain raw (compT first s.cal) s.cal
    exec .readHumidity s = .next { s.dropAnswers 2 with
      raw := raw, temp := tempChain first s.cal.t1 s.cal.t2 s.cal.t3, tFine := compT first s.cal, hum := r
      f0 := toRH r.hFix
      history := s.history ++ [.read 0xFA#8 (w.val.take 3), .read 0xFD#8 (v.val.take 2)]
      responses := s.responses ++ [.value (toRH r.hFix)] })

/-- 44_humidity.md R127: the clamp and the output scale hold for every input, inside `NOVF_H` or not. -/
def Obligations.HumidityClamp : Prop :=
  ∀ (adc t : BitVec 32) (c : Calibration), let r := humChain adc t c
    r.hc.toInt = (if r.hz.toInt < 0 then 0 else if 419430400 < r.hz.toInt then 419430400 else r.hz.toInt) ∧
    r.hFix.toNat = r.hc.toNat / 2 ^ 12 ∧ r.hFix.toNat ≤ 102400

/-- 44_humidity.md R128: on 0 .. 102400 the division by 1024.0 is exact and neither test of the clamp fires; the result
is finite, not negative and never -0.0. -/
def Obligations.PercentIsExact : Prop :=
  ∀ h : BitVec 32, h.toNat ≤ 102400 → toRH h = percentOf h ∧
    ∃ m, toRH h = .fin false m ∧ Flt.units m.val * 1024 = h.toNat * Flt.scale ∧
      (toRH h).lt (Flt.zero false) = false ∧ Flt.c100.lt (toRH h) = false

/-- 44_humidity.md R131: READ_HUMIDITY in the Ready state gives a value in [0.0, 100.0] for every sample, fine
temperature and coefficient set, unless the bus fails. -/
def Obligations.HumidityResponseIsAPercentage : Prop :=
  ∀ s : State, s.init = true → ∃ t r, exec .readHumidity s = .next t ∧ t.responses = s.responses ++ [r] ∧
    ((∃ e, r = .err (.busError e)) ∨
      ∃ v, r = .value v ∧ v ≠ .nan ∧ v.lt (Flt.zero false) = false ∧ Flt.c100.lt v = false)

/-- 00_scope.md R11 for the humidity chain: inside `NOVF_H` the result equals that in unbounded integers. -/
def Obligations.HumidityChainExactInsideNovf : Prop :=
  ∀ (adc t : BitVec 32) (c : Calibration), NovfH adc.toNat t.toInt c →
    ((humChain adc t c).hFix.toNat : Int) = exactHum adc.toNat t.toInt c

/-- 44_humidity.md R131: with the example coefficients and fine temperature 128422 the humidity does not decrease as
the sample rises, is 0 up to sample 19422 and the full scale from 37133 on, and neither in between. -/
def Obligations.ExampleHumidityIsMonotone : Prop :=
  ∀ c : Calibration, c.h1 = 75#8 → c.h2 = 367#16 → c.h3 = 0#8 → c.h4 = 301#16 → c.h5 = 50#16 → c.h6 = 30#8 →
    let h (adc : BitVec 32) := (humChain adc 128422#32 c).hFix.toNat
    (∀ a b : BitVec 32, a.toNat ≤ b.toNat → b.toNat ≤ 65535 → h a ≤ h b) ∧
    (∀ a : BitVec 32, a.toNat ≤ 65535 → ((h a = 0 ↔ a.toNat ≤ 19422) ∧ (h a = 102400 ↔ 37133 ≤ a.toNat))) ∧
    h 19423#32 = 11 ∧ h 37132#32 = 102391

/-! The altitude engine -/

/-- READ_ALTITUDE, whatever the state, the operand and the bus (45_altitude.md R142, R141). What `RAW`, the temperature and
pressure working registers, `F0` and `F1` hold once the command has ended is the model's choice, notes/assumptions/10.md. -/
def Obligations.ReadAltitudeResult : Prop :=
  (∀ arg : BitVec 64, decode (0x05#8 ++ arg) = .ok (.readAltitude arg)) ∧
  (∀ (arg : BitVec 64) (s : State), s.init = false →
    exec (.readAltitude arg) s = .next { s with responses := s.responses ++ [.err .notInitialized] }) ∧
  (∀ (arg : BitVec 64) (s : State) (e : BusErr), s.init = true → s.answersBegin [.error e] →
    exec (.readAltitude arg) s = .next { s.dropAnswers 1 with
      history := s.history ++ [.readFailed 0xFA#8 3 e], responses := s.responses ++ [.err (.busError e)] }) ∧
  (∀ (arg : BitVec 64) (s : State) (w : Window) (e : BusErr), s.init = true → s.answersBegin [.ok w, .error e] →
    let raw := unpack20 (Window.get w (by decide))
    exec (.readAltitude arg) s = .next { s.dropAnswers 2 with
      raw := raw, temp := tempChain raw s.cal.t1 s.cal.t2 s.cal.t3, tFine := compT raw s.cal
      history := s.history ++ [.read 0xFA#8 (w.val.take 3), .readFailed 0xF7#8 3 e]
      responses := s.responses ++ [.err (.busError e)] }) ∧
  (∀ (arg : BitVec 64) (s : State) (w v : Window), s.init = true → s.answersBegin [.ok w, .ok v] →
    let first := unpack20 (Window.get w (by decide))
    let raw := unpack20 (Window.get v (by decide))
    let r := pressChain s.press raw (compT first s.cal) s.cal
    let power := pow (Flt.fdiv (toHPa r.pFix) (Flt.ofBits arg)) exponentE
    exec (.readAltitude arg) s = .next { s.dropAnswers 2 with
      raw := raw, temp := tempChain first s.cal.t1 s.cal.t2 s.cal.t3, tFine := compT first s.cal, press := r
      f0 := Flt.fsub Flt.c1 power, f1 := power
      history := s.history ++ [.read 0xFA#8 (w.val.take 3), .read 0xF7#8 (v.val.take 3)]
      responses := s.responses ++ [.value (Flt.fmul Flt.c44330 (Flt.fsub Flt.c1 power))] })

/-- 45_altitude.md R143: the special operands, row by row; where a row says "finite < 0" of the ratio, the ratio is
taken to be so, and a ratio that underflows or overflows falls under the rows for +0.0 and +inf. -/
def Obligations.AltitudeOfSpecialOperands : Prop :=
  (∀ p s : Flt, p = Flt.zero false → positiveFinite s = true → altitude p s = Flt.c44330) ∧
  (∀ p : Flt, positiveFinite p = true → altitude p (Flt.zero false) = .inf true) ∧
  (∀ z : Bool, altitude (Flt.zero false) (Flt.zero z) = .nan) ∧
  (∀ p s : Flt, negativeFinite (Flt.fdiv p s) = true → altitude p s = .nan) ∧
  (∀ p : Flt, altitude p .nan = .nan) ∧
  (∀ p : Flt, positiveFinite p = true → altitude p (.inf false) = Flt.c44330) ∧
  (∀ p s : Flt, Flt.fdiv p s = Flt.zero false → altitude p s = Flt.c44330) ∧
  (∀ p s : Flt, Flt.fdiv p s = .inf false → altitude p s = .inf true) ∧
  (∀ p : Flt, positiveFinite p = true → Flt.fdiv p (Flt.zero true) = .inf true ∧ Flt.fdiv p (.inf true) = Flt.zero true)

/-- 45_altitude.md R144 (a): the altitude is +0.0 for every finite non-zero operand equal to the pressure. -/
def Obligations.AltitudeIsZeroAtSeaLevelPressure : Prop :=
  ∀ p : Flt, (positiveFinite p = true ∨ negativeFinite p = true) → altitude p p = Flt.zero false

/-- 00_scope.md R14, P2 to P5. -/
def Obligations.PowSpecialCases : Prop :=
  (∀ y : Flt, pow Flt.c1 y = Flt.c1) ∧
  (∀ y : Flt, positiveFinite y = true → pow (Flt.zero false) y = Flt.zero false) ∧
  (∀ y : Flt, (Flt.zero false).lt y = true → pow (.inf false) y = .inf false) ∧
  (∀ x y : Flt, negativeFinite x = true → fractional y = true → pow x y = .nan) ∧
  (∀ y : Flt, y ≠ Flt.zero false → y ≠ Flt.zero true → pow .nan y = .nan)

/-- 00_scope.md R14, P6: for finite x > 0 the power at the fixed exponent is within one unit in the last place of the
real number x^e. That the last place is that of the FLT value just below x^e is the model's choice,
notes/assumptions/12.md. -/
def Obligations.PowIsWithinOneUnitInTheLastPlace : Prop :=
  ∃ e : Fin 9218868437227405312, exponentE = .fin false e ∧
    ∀ m : Fin 9218868437227405312, 0 < m.val → ∃ k below : Fin 9218868437227405312, pow (.fin false m) exponentE = .fin false k ∧
      let real (u : Nat) : ℝ := (u : ℝ) / (Flt.scale : ℝ)
      let power := real (Flt.units m.val) ^ real (Flt.units e.val)
      real (Flt.units below.val) ≤ power ∧ power < real (Flt.units below.val + 2 ^ Flt.binade below.val) ∧
        |real (Flt.units k.val) - power| ≤ real (2 ^ Flt.binade below.val)

/-! Floating point -/

/-- 00_scope.md R13: `round` is round to nearest, ties to even, with overflow to infinity from the midpoint above the
greatest finite value on. -/
def Obligations.RoundingIsNearestTiesToEven : Prop :=
  ∀ (neg : Bool) (num den : Nat), 0 < den →
    (den * (2 ^ 1024 - 2 ^ 970) ≤ num → Flt.round neg num den = .inf neg) ∧
    (num < den * (2 ^ 1024 - 2 ^ 970) → ∃ m, Flt.round neg num den = .fin neg m ∧
      ∀ y : Fin 9218868437227405312,
        |((num * Flt.scale : Nat) : Int) - (Flt.units m.val * den : Nat)| ≤
          |((num * Flt.scale : Nat) : Int) - (Flt.units y.val * den : Nat)| ∧
        (y ≠ m → |((num * Flt.scale : Nat) : Int) - (Flt.units m.val * den : Nat)| =
          |((num * Flt.scale : Nat) : Int) - (Flt.units y.val * den : Nat)| → m.val % 2 = 0))

/-- 00_scope.md R13: `i2f` is exact for |v| up to 2^53. -/
def Obligations.IntegersConvertExactly : Prop :=
  ∀ v : Int, v.natAbs ≤ 2 ^ 53 → ∃ m, Flt.ofInt v = .fin (decide (v < 0)) m ∧ Flt.units m.val = v.natAbs * Flt.scale

/-- 30_encoding.md R50: the bit pattern of an FLT value and the value of a pattern agree; every pattern of a NaN reads as
NaN. -/
def Obligations.FltPatternsRoundTrip : Prop :=
  (∀ (fill : BitVec 64) (v : Flt), Flt.ofBits (Flt.toBits fill v) = v) ∧
  (∀ fill b : BitVec 64, Flt.ofBits b ≠ .nan → Flt.toBits fill (Flt.ofBits b) = b) ∧
  (∀ b : BitVec 64, Flt.ofBits b = .nan → Flt.toBits b .nan = b)

/-- 00_scope.md R13, 45_altitude.md R141: the constants of the formulas. -/
def Obligations.ConstantPatterns : Prop :=
  Flt.c5255m.toBits 0#64 = 0x4015051EB851EB85#64 ∧ exponentE.toBits 0#64 = 0x3FC85B95CCD9456C#64 ∧
  Flt.c44330.toBits 0#64 = 0x40E5A54000000000#64 ∧ Flt.c100.toBits 0#64 = 0x4059000000000000#64

/-! Responses, errors and the whole machine -/

/-- 30_encoding.md R54: the status codes, and `value` of a measurement command that succeeded. -/
def Obligations.ResponseWordLayout : Prop :=
  ∀ fill : BitVec 64,
    (Response.word fill .ok).extractLsb' 64 8 = 0x00#8 ∧
    (∀ v, (Response.word fill (.value v)).extractLsb' 64 8 = 0x00#8 ∧
      (Response.word fill (.value v)).extractLsb' 0 64 = v.toBits fill) ∧
    (Response.word fill (.err .deviceNotFound)).extractLsb' 64 8 = 0x01#8 ∧
    (Response.word fill (.err .resetTimeout)).extractLsb' 64 8 = 0x02#8 ∧
    (∀ e, (Response.word fill (.err (.busError e))).extractLsb' 64 8 = 0x03#8) ∧
    (Response.word fill (.err .notInitialized)).extractLsb' 64 8 = 0x04#8

/-- 20_memory.md R48, 30_encoding.md R54, 60_exceptions.md R150: every command completes whatever the bus answers, with
exactly one response, of a kind that command can give. -/
def Obligations.EveryCommandAnswersOnce : Prop :=
  ∀ (i : Instr) (s : State), ∃ t r, exec i s = .next t ∧ t.responses = s.responses ++ [r] ∧ responseAllowed i r = true

/-- 60_exceptions.md R154: a measurement command in the Uninitialized state answers NotInitialized and does nothing
else, whatever its operand; `INIT` is 0 after power-on, a failed SETUP and any SOFT_RESET; SETUP and SOFT_RESET never
raise it, nor does a measurement command in the Ready state. -/
def Obligations.UninitializedMeasurementRaises : Prop :=
  (∀ (i : Instr) (s : State), measurement i = true → s.init = false →
    exec i s = .next { s with responses := s.responses ++ [.err .notInitialized] }) ∧
  (∀ s : State, s.powerOnReset.init = false) ∧
  (∀ s t : State, exec .setup s = .next t → t.responses ≠ s.responses ++ [.ok] → t.init = false) ∧
  (∀ s t : State, exec .softReset s = .next t → t.init = false) ∧
  (∀ (i : Instr) (s t : State), measurement i = false → exec i s = .next t →
    t.responses ≠ s.responses ++ [.err .notInitialized]) ∧
  (∀ (i : Instr) (s t : State), measurement i = true → s.init = true → exec i s = .next t →
    t.responses ≠ s.responses ++ [.err .notInitialized])

/-- 60_exceptions.md R161, 70_reset_and_hazards.md R178: the states of `INIT` are entered and left in no other way, over
the commands and over the steps: power-on leads to Uninitialized, a step with nothing presented leaves `INIT` alone,
Ready is entered by a SETUP that responds Ok, and left by power-on, SETUP or SOFT_RESET. That power-on is an event
between commands, and what an idle step does, are the model's choices, notes/assumptions/20.md and 4.md. -/
def Obligations.InitChangesOnlyBySetupAndResets : Prop :=
  (∀ s t : State, exec .setup s = .next t → (t.init = true ↔ t.responses = s.responses ++ [.ok])) ∧
  (∀ s t : State, exec .softReset s = .next t → t.init = false) ∧
  (∀ (i : Instr) (s t : State), measurement i = true → exec i s = .next t → t.init = s.init ∧ t.cal = s.cal) ∧
  (∀ s t : State, step s = .next t → s.init = false → t.init = true →
    ∃ w rest, s.events = .command w :: rest ∧ decode w = .ok .setup ∧ t.responses = s.responses ++ [.ok]) ∧
  (∀ s t : State, step s = .next t → s.init = true → t.init = false →
    ∃ e rest, s.events = e :: rest ∧
      (e = .powerOn ∨ ∃ w, e = .command w ∧ (decode w = .ok .setup ∨ decode w = .ok .softReset))) ∧
  (∀ (s t : State) (rest : List HostEvent), s.events = .powerOn :: rest → step s = .next t → t.init = false) ∧
  (∀ s t : State, s.events = [] → step s = .next t → t.init = s.init)

/-- What the measurement commands leave alone, whatever the bus answers: the parameters, `INIT`, `CAL`, the command
port, the working registers of the other chains; and the bus sees sample fetches only, so no write. That
READ_TEMPERATURE and READ_PRESSURE leave `F0` and `F1`, and READ_HUMIDITY `F1`, is the model's reading of R24, and that
a working register keeps its value from one command to the next the model's choice, notes/assumptions/10.md. -/
def Obligations.MeasurementFrame : Prop :=
  (∀ (i : Instr) (s t : State), measurement i = true → exec i s = .next t →
    t.params = s.params ∧ t.init = s.init ∧ t.cal = s.cal ∧ t.events = s.events ∧
    ∃ evs, t.history = s.history ++ evs ∧ evs.length ≤ 2 ∧ ∀ e ∈ evs, sampleFetch e = true) ∧
  (∀ s t : State, exec .readTemperature s = .next t →
    t.press = s.press ∧ t.hum = s.hum ∧ t.f0 = s.f0 ∧ t.f1 = s.f1) ∧
  (∀ s t : State, exec .readPressure s = .next t → t.hum = s.hum ∧ t.f0 = s.f0 ∧ t.f1 = s.f1) ∧
  (∀ s t : State, exec .readHumidity s = .next t → t.press = s.press ∧ t.f1 = s.f1) ∧
  (∀ (arg : BitVec 64) (s t : State), exec (.readAltitude arg) s = .next t → t.hum = s.hum)

/-- 60_exceptions.md R153, R160: the first transaction the collaborator fails ends the command, and its payload is the
response's, unchanged; a command that answers anything else had no failed transaction. -/
def Obligations.BusErrorsArePrecise : Prop :=
  ∀ (i : Instr) (s t : State), exec i s = .next t →
    ∃ evs r, t.history = s.history ++ evs ∧ t.responses = s.responses ++ [r] ∧
      (∀ e, r = .err (.busError e) → ∃ before last, evs = before ++ [last] ∧ last.failure = some e ∧
        ∀ b ∈ before, b.failure = none) ∧
      ((∀ e, r ≠ .err (.busError e)) → ∀ b ∈ evs, b.failure = none)

/-- 70_reset_and_hazards.md R185: every command makes a bounded number of transactions, the probes alone depending on
RESET_POLL_MAX. -/
def Obligations.TransactionsAreBounded : Prop :=
  ∀ (i : Instr) (s t : State), exec i s = .next t →
    t.history.length ≤ s.history.length + (match i with
      | .setup => 7 + s.params.resetPollMax
      | .softReset => 1 + s.params.resetPollMax
      | .readTemperature => 1
      | .readPressure => 2
      | .readHumidity => 2
      | .readAltitude _ => 2)

/-- The invariant holds right after reset. -/
def Obligations.InvariantAtReset : Prop := State.reset.Inv

/-- 60_exceptions.md R170, 10_state.md R20, 40_setup_calibration.md R80: every step keeps the invariant: only the
accesses of R170 are made, and in the Ready state the coefficients are the decode of the last SETUP's blocks. -/
def Obligations.StepKeepsInvariant : Prop :=
  ∀ s t : State, s.Inv → step s = .next t → t.Inv

/-- 10_state.md R23, R24, R26: no host and no bus can tell what `T_FINE` and the working registers held before a step,
nor, while `INIT` is 0, what `CAL` held; so nothing is carried from one command to the next but `INIT` and `CAL`. -/
def Obligations.HiddenRegistersAreUnobservable : Prop :=
  ∀ s t : State, s.observablyEqual t → outcomesAgree (step s) (step t)

/-- 30_encoding.md R60: the textual form. -/
def Obligations.TextualFormAssembles : Prop :=
  (assemble "setup()".toList = some .setup ∧ assemble "load(bus)".toList = some .setup ∧
    assemble "soft_reset()".toList = some .softReset ∧ assemble "read_temperature()".toList = some .readTemperature ∧
    assemble "read_pressure()".toList = some .readPressure ∧ assemble "read_humidity()".toList = some .readHumidity) ∧
  assemble "read_altitude(1013.25)".toList = some (.readAltitude 0x408FAA0000000000#64)
end

