-- ==== Sys2Proof/Laws/State.lean ====
section
/-!
SUPPORT. One lemma per field per update of State, so that no proof unfolds a record update.
-/
namespace Sys2Proof.Machine

/-! `setInit` writes `init` alone. -/
@[simp] theorem State.setInit_params (s : State) (b : Bool) : (s.setInit b).params = s.params := rfl
@[simp] theorem State.setInit_init (s : State) (b : Bool) : (s.setInit b).init = b := rfl
@[simp] theorem State.setInit_cal (s : State) (b : Bool) : (s.setInit b).cal = s.cal := rfl
@[simp] theorem State.setInit_tFine (s : State) (b : Bool) : (s.setInit b).tFine = s.tFine := rfl
@[simp] theorem State.setInit_raw (s : State) (b : Bool) : (s.setInit b).raw = s.raw := rfl
@[simp] theorem State.setInit_temp (s : State) (b : Bool) : (s.setInit b).temp = s.temp := rfl
@[simp] theorem State.setInit_press (s : State) (b : Bool) : (s.setInit b).press = s.press := rfl
@[simp] theorem State.setInit_hum (s : State) (b : Bool) : (s.setInit b).hum = s.hum := rfl
@[simp] theorem State.setInit_f0 (s : State) (b : Bool) : (s.setInit b).f0 = s.f0 := rfl
@[simp] theorem State.setInit_f1 (s : State) (b : Bool) : (s.setInit b).f1 = s.f1 := rfl
@[simp] theorem State.setInit_events (s : State) (b : Bool) : (s.setInit b).events = s.events := rfl
@[simp] theorem State.setInit_answers (s : State) (b : Bool) : (s.setInit b).answers = s.answers := rfl
@[simp] theorem State.setInit_nonce (s : State) (b : Bool) : (s.setInit b).nonce = s.nonce := rfl
@[simp] theorem State.setInit_history (s : State) (b : Bool) : (s.setInit b).history = s.history := rfl
@[simp] theorem State.setInit_responses (s : State) (b : Bool) : (s.setInit b).responses = s.responses := rfl

/-! `setCal` writes `cal` alone. -/
@[simp] theorem State.setCal_params (s : State) (c : Calibration) : (s.setCal c).params = s.params := rfl
@[simp] theorem State.setCal_init (s : State) (c : Calibration) : (s.setCal c).init = s.init := rfl
@[simp] theorem State.setCal_cal (s : State) (c : Calibration) : (s.setCal c).cal = c := rfl
@[simp] theorem State.setCal_tFine (s : State) (c : Calibration) : (s.setCal c).tFine = s.tFine := rfl
@[simp] theorem State.setCal_raw (s : State) (c : Calibration) : (s.setCal c).raw = s.raw := rfl
@[simp] theorem State.setCal_temp (s : State) (c : Calibration) : (s.setCal c).temp = s.temp := rfl
@[simp] theorem State.setCal_press (s : State) (c : Calibration) : (s.setCal c).press = s.press := rfl
@[simp] theorem State.setCal_hum (s : State) (c : Calibration) : (s.setCal c).hum = s.hum := rfl
@[simp] theorem State.setCal_f0 (s : State) (c : Calibration) : (s.setCal c).f0 = s.f0 := rfl
@[simp] theorem State.setCal_f1 (s : State) (c : Calibration) : (s.setCal c).f1 = s.f1 := rfl
@[simp] theorem State.setCal_events (s : State) (c : Calibration) : (s.setCal c).events = s.events := rfl
@[simp] theorem State.setCal_answers (s : State) (c : Calibration) : (s.setCal c).answers = s.answers := rfl
@[simp] theorem State.setCal_nonce (s : State) (c : Calibration) : (s.setCal c).nonce = s.nonce := rfl
@[simp] theorem State.setCal_history (s : State) (c : Calibration) : (s.setCal c).history = s.history := rfl
@[simp] theorem State.setCal_responses (s : State) (c : Calibration) : (s.setCal c).responses = s.responses := rfl

/-! `setTFine` writes `tFine` alone. -/
@[simp] theorem State.setTFine_params (s : State) (v : BitVec 32) : (s.setTFine v).params = s.params := rfl
@[simp] theorem State.setTFine_init (s : State) (v : BitVec 32) : (s.setTFine v).init = s.init := rfl
@[simp] theorem State.setTFine_cal (s : State) (v : BitVec 32) : (s.setTFine v).cal = s.cal := rfl
@[simp] theorem State.setTFine_tFine (s : State) (v : BitVec 32) : (s.setTFine v).tFine = v := rfl
@[simp] theorem State.setTFine_raw (s : State) (v : BitVec 32) : (s.setTFine v).raw = s.raw := rfl
@[simp] theorem State.setTFine_temp (s : State) (v : BitVec 32) : (s.setTFine v).temp = s.temp := rfl
@[simp] theorem State.setTFine_press (s : State) (v : BitVec 32) : (s.setTFine v).press = s.press := rfl
@[simp] theorem State.setTFine_hum (s : State) (v : BitVec 32) : (s.setTFine v).hum = s.hum := rfl
@[simp] theorem State.setTFine_f0 (s : State) (v : BitVec 32) : (s.setTFine v).f0 = s.f0 := rfl
@[simp] theorem State.setTFine_f1 (s : State) (v : BitVec 32) : (s.setTFine v).f1 = s.f1 := rfl
@[simp] theorem State.setTFine_events (s : State) (v : BitVec 32) : (s.setTFine v).events = s.events := rfl
@[simp] theorem State.setTFine_answers (s : State) (v : BitVec 32) : (s.setTFine v).answers = s.answers := rfl
@[simp] theorem State.setTFine_nonce (s : State) (v : BitVec 32) : (s.setTFine v).nonce = s.nonce := rfl
@[simp] theorem State.setTFine_history (s : State) (v : BitVec 32) : (s.setTFine v).history = s.history := rfl
@[simp] theorem State.setTFine_responses (s : State) (v : BitVec 32) : (s.setTFine v).responses = s.responses := rfl

/-! `setRaw` writes `raw` alone. -/
@[simp] theorem State.setRaw_params (s : State) (v : BitVec 32) : (s.setRaw v).params = s.params := rfl
@[simp] theorem State.setRaw_init (s : State) (v : BitVec 32) : (s.setRaw v).init = s.init := rfl
@[simp] theorem State.setRaw_cal (s : State) (v : BitVec 32) : (s.setRaw v).cal = s.cal := rfl
@[simp] theorem State.setRaw_tFine (s : State) (v : BitVec 32) : (s.setRaw v).tFine = s.tFine := rfl
@[simp] theorem State.setRaw_raw (s : State) (v : BitVec 32) : (s.setRaw v).raw = v := rfl
@[simp] theorem State.setRaw_temp (s : State) (v : BitVec 32) : (s.setRaw v).temp = s.temp := rfl
@[simp] theorem State.setRaw_press (s : State) (v : BitVec 32) : (s.setRaw v).press = s.press := rfl
@[simp] theorem State.setRaw_hum (s : State) (v : BitVec 32) : (s.setRaw v).hum = s.hum := rfl
@[simp] theorem State.setRaw_f0 (s : State) (v : BitVec 32) : (s.setRaw v).f0 = s.f0 := rfl
@[simp] theorem State.setRaw_f1 (s : State) (v : BitVec 32) : (s.setRaw v).f1 = s.f1 := rfl
@[simp] theorem State.setRaw_events (s : State) (v : BitVec 32) : (s.setRaw v).events = s.events := rfl
@[simp] theorem State.setRaw_answers (s : State) (v : BitVec 32) : (s.setRaw v).answers = s.answers := rfl
@[simp] theorem State.setRaw_nonce (s : State) (v : BitVec 32) : (s.setRaw v).nonce = s.nonce := rfl
@[simp] theorem State.setRaw_history (s : State) (v : BitVec 32) : (s.setRaw v).history = s.history := rfl
@[simp] theorem State.setRaw_responses (s : State) (v : BitVec 32) : (s.setRaw v).responses = s.responses := rfl

/-! `setTemp` writes `temp` alone. -/
@[simp] theorem State.setTemp_params (s : State) (r : TempRegs) : (s.setTemp r).params = s.params := rfl
@[simp] theorem State.setTemp_init (s : State) (r : TempRegs) : (s.setTemp r).init = s.init := rfl
@[simp] theorem State.setTemp_cal (s : State) (r : TempRegs) : (s.setTemp r).cal = s.cal := rfl
@[simp] theorem State.setTemp_tFine (s : State) (r : TempRegs) : (s.setTemp r).tFine = s.tFine := rfl
@[simp] theorem State.setTemp_raw (s : State) (r : TempRegs) : (s.setTemp r).raw = s.raw := rfl
@[simp] theorem State.setTemp_temp (s : State) (r : TempRegs) : (s.setTemp r).temp = r := rfl
@[simp] theorem State.setTemp_press (s : State) (r : TempRegs) : (s.setTemp r).press = s.press := rfl
@[simp] theorem State.setTemp_hum (s : State) (r : TempRegs) : (s.setTemp r).hum = s.hum := rfl
@[simp] theorem State.setTemp_f0 (s : State) (r : TempRegs) : (s.setTemp r).f0 = s.f0 := rfl
@[simp] theorem State.setTemp_f1 (s : State) (r : TempRegs) : (s.setTemp r).f1 = s.f1 := rfl
@[simp] theorem State.setTemp_events (s : State) (r : TempRegs) : (s.setTemp r).events = s.events := rfl
@[simp] theorem State.setTemp_answers (s : State) (r : TempRegs) : (s.setTemp r).answers = s.answers := rfl
@[simp] theorem State.setTemp_nonce (s : State) (r : TempRegs) : (s.setTemp r).nonce = s.nonce := rfl
@[simp] theorem State.setTemp_history (s : State) (r : TempRegs) : (s.setTemp r).history = s.history := rfl
@[simp] theorem State.setTemp_responses (s : State) (r : TempRegs) : (s.setTemp r).responses = s.responses := rfl

/-! `setPress` writes `press` alone. -/
@[simp] theorem State.setPress_params (s : State) (r : PressRegs) : (s.setPress r).params = s.params := rfl
@[simp] theorem State.setPress_init (s : State) (r : PressRegs) : (s.setPress r).init = s.init := rfl
@[simp] theorem State.setPress_cal (s : State) (r : PressRegs) : (s.setPress r).cal = s.cal := rfl
@[simp] theorem State.setPress_tFine (s : State) (r : PressRegs) : (s.setPress r).tFine = s.tFine := rfl
@[simp] theorem State.setPress_raw (s : State) (r : PressRegs) : (s.setPress r).raw = s.raw := rfl
@[simp] theorem State.setPress_temp (s : State) (r : PressRegs) : (s.setPress r).temp = s.temp := rfl
@[simp] theorem State.setPress_press (s : State) (r : PressRegs) : (s.setPress r).press = r := rfl
@[simp] theorem State.setPress_hum (s : State) (r : PressRegs) : (s.setPress r).hum = s.hum := rfl
@[simp] theorem State.setPress_f0 (s : State) (r : PressRegs) : (s.setPress r).f0 = s.f0 := rfl
@[simp] theorem State.setPress_f1 (s : State) (r : PressRegs) : (s.setPress r).f1 = s.f1 := rfl
@[simp] theorem State.setPress_events (s : State) (r : PressRegs) : (s.setPress r).events = s.events := rfl
@[simp] theorem State.setPress_answers (s : State) (r : PressRegs) : (s.setPress r).answers = s.answers := rfl
@[simp] theorem State.setPress_nonce (s : State) (r : PressRegs) : (s.setPress r).nonce = s.nonce := rfl
@[simp] theorem State.setPress_history (s : State) (r : PressRegs) : (s.setPress r).history = s.history := rfl
@[simp] theorem State.setPress_responses (s : State) (r : PressRegs) : (s.setPress r).responses = s.responses := rfl

/-! `setHum` writes `hum` alone. -/
@[simp] theorem State.setHum_params (s : State) (r : HumRegs) : (s.setHum r).params = s.params := rfl
@[simp] theorem State.setHum_init (s : State) (r : HumRegs) : (s.setHum r).init = s.init := rfl
@[simp] theorem State.setHum_cal (s : State) (r : HumRegs) : (s.setHum r).cal = s.cal := rfl
@[simp] theorem State.setHum_tFine (s : State) (r : HumRegs) : (s.setHum r).tFine = s.tFine := rfl
@[simp] theorem State.setHum_raw (s : State) (r : HumRegs) : (s.setHum r).raw = s.raw := rfl
@[simp] theorem State.setHum_temp (s : State) (r : HumRegs) : (s.setHum r).temp = s.temp := rfl
@[simp] theorem State.setHum_press (s : State) (r : HumRegs) : (s.setHum r).press = s.press := rfl
@[simp] theorem State.setHum_hum (s : State) (r : HumRegs) : (s.setHum r).hum = r := rfl
@[simp] theorem State.setHum_f0 (s : State) (r : HumRegs) : (s.setHum r).f0 = s.f0 := rfl
@[simp] theorem State.setHum_f1 (s : State) (r : HumRegs) : (s.setHum r).f1 = s.f1 := rfl
@[simp] theorem State.setHum_events (s : State) (r : HumRegs) : (s.setHum r).events = s.events := rfl
@[simp] theorem State.setHum_answers (s : State) (r : HumRegs) : (s.setHum r).answers = s.answers := rfl
@[simp] theorem State.setHum_nonce (s : State) (r : HumRegs) : (s.setHum r).nonce = s.nonce := rfl
@[simp] theorem State.setHum_history (s : State) (r : HumRegs) : (s.setHum r).history = s.history := rfl
@[simp] theorem State.setHum_responses (s : State) (r : HumRegs) : (s.setHum r).responses = s.responses := rfl

/-! `setF0` writes `f0` alone. -/
@[simp] theorem State.setF0_params (s : State) (v : Flt) : (s.setF0 v).params = s.params := rfl
@[simp] theorem State.setF0_init (s : State) (v : Flt) : (s.setF0 v).init = s.init := rfl
@[simp] theorem State.setF0_cal (s : State) (v : Flt) : (s.setF0 v).cal = s.cal := rfl
@[simp] theorem State.setF0_tFine (s : State) (v : Flt) : (s.setF0 v).tFine = s.tFine := rfl
@[simp] theorem State.setF0_raw (s : State) (v : Flt) : (s.setF0 v).raw = s.raw := rfl
@[simp] theorem State.setF0_temp (s : State) (v : Flt) : (s.setF0 v).temp = s.temp := rfl
@[simp] theorem State.setF0_press (s : State) (v : Flt) : (s.setF0 v).press = s.press := rfl
@[simp] theorem State.setF0_hum (s : State) (v : Flt) : (s.setF0 v).hum = s.hum := rfl
@[simp] theorem State.setF0_f0 (s : State) (v : Flt) : (s.setF0 v).f0 = v := rfl
@[simp] theorem State.setF0_f1 (s : State) (v : Flt) : (s.setF0 v).f1 = s.f1 := rfl
@[simp] theorem State.setF0_events (s : State) (v : Flt) : (s.setF0 v).events = s.events := rfl
@[simp] theorem State.setF0_answers (s : State) (v : Flt) : (s.setF0 v).answers = s.answers := rfl
@[simp] theorem State.setF0_nonce (s : State) (v : Flt) : (s.setF0 v).nonce = s.nonce := rfl
@[simp] theorem State.setF0_history (s : State) (v : Flt) : (s.setF0 v).history = s.history := rfl
@[simp] theorem State.setF0_responses (s : State) (v : Flt) : (s.setF0 v).responses = s.responses := rfl

/-! `setF1` writes `f1` alone. -/
@[simp] theorem State.setF1_params (s : State) (v : Flt) : (s.setF1 v).params = s.params := rfl
@[simp] theorem State.setF1_init (s : State) (v : Flt) : (s.setF1 v).init = s.init := rfl
@[simp] theorem State.setF1_cal (s : State) (v : Flt) : (s.setF1 v).cal = s.cal := rfl
@[simp] theorem State.setF1_tFine (s : State) (v : Flt) : (s.setF1 v).tFine = s.tFine := rfl
@[simp] theorem State.setF1_raw (s : State) (v : Flt) : (s.setF1 v).raw = s.raw := rfl
@[simp] theorem State.setF1_temp (s : State) (v : Flt) : (s.setF1 v).temp = s.temp := rfl
@[simp] theorem State.setF1_press (s : State) (v : Flt) : (s.setF1 v).press = s.press := rfl
@[simp] theorem State.setF1_hum (s : State) (v : Flt) : (s.setF1 v).hum = s.hum := rfl
@[simp] theorem State.setF1_f0 (s : State) (v : Flt) : (s.setF1 v).f0 = s.f0 := rfl
@[simp] theorem State.setF1_f1 (s : State) (v : Flt) : (s.setF1 v).f1 = v := rfl
@[simp] theorem State.setF1_events (s : State) (v : Flt) : (s.setF1 v).events = s.events := rfl
@[simp] theorem State.setF1_answers (s : State) (v : Flt) : (s.setF1 v).answers = s.answers := rfl
@[simp] theorem State.setF1_nonce (s : State) (v : Flt) : (s.setF1 v).nonce = s.nonce := rfl
@[simp] theorem State.setF1_history (s : State) (v : Flt) : (s.setF1 v).history = s.history := rfl
@[simp] theorem State.setF1_responses (s : State) (v : Flt) : (s.setF1 v).responses = s.responses := rfl

/-! `setEvents` writes `events` alone. -/
@[simp] theorem State.setEvents_params (s : State) (es : List HostEvent) : (s.setEvents es).params = s.params := rfl
@[simp] theorem State.setEvents_init (s : State) (es : List HostEvent) : (s.setEvents es).init = s.init := rfl
@[simp] theorem State.setEvents_cal (s : State) (es : List HostEvent) : (s.setEvents es).cal = s.cal := rfl
@[simp] theorem State.setEvents_tFine (s : State) (es : List HostEvent) : (s.setEvents es).tFine = s.tFine := rfl
@[simp] theorem State.setEvents_raw (s : State) (es : List HostEvent) : (s.setEvents es).raw = s.raw := rfl
@[simp] theorem State.setEvents_temp (s : State) (es : List HostEvent) : (s.setEvents es).temp = s.temp := rfl
@[simp] theorem State.setEvents_press (s : State) (es : List HostEvent) : (s.setEvents es).press = s.press := rfl
@[simp] theorem State.setEvents_hum (s : State) (es : List HostEvent) : (s.setEvents es).hum = s.hum := rfl
@[simp] theorem State.setEvents_f0 (s : State) (es : List HostEvent) : (s.setEvents es).f0 = s.f0 := rfl
@[simp] theorem State.setEvents_f1 (s : State) (es : List HostEvent) : (s.setEvents es).f1 = s.f1 := rfl
@[simp] theorem State.setEvents_events (s : State) (es : List HostEvent) : (s.setEvents es).events = es := rfl
@[simp] theorem State.setEvents_answers (s : State) (es : List HostEvent) : (s.setEvents es).answers = s.answers := rfl
@[simp] theorem State.setEvents_nonce (s : State) (es : List HostEvent) : (s.setEvents es).nonce = s.nonce := rfl
@[simp] theorem State.setEvents_history (s : State) (es : List HostEvent) : (s.setEvents es).history = s.history := rfl
@[simp] theorem State.setEvents_responses (s : State) (es : List HostEvent) : (s.setEvents es).responses = s.responses := rfl

/-! `record` writes `history` alone. -/
@[simp] theorem State.record_params (s : State) (e : BusEvent) : (s.record e).params = s.params := rfl
@[simp] theorem State.record_init (s : State) (e : BusEvent) : (s.record e).init = s.init := rfl
@[simp] theorem State.record_cal (s : State) (e : BusEvent) : (s.record e).cal = s.cal := rfl
@[simp] theorem State.record_tFine (s : State) (e : BusEvent) : (s.record e).tFine = s.tFine := rfl
@[simp] theorem State.record_raw (s : State) (e : BusEvent) : (s.record e).raw = s.raw := rfl
@[simp] theorem State.record_temp (s : State) (e : BusEvent) : (s.record e).temp = s.temp := rfl
@[simp] theorem State.record_press (s : State) (e : BusEvent) : (s.record e).press = s.press := rfl
@[simp] theorem State.record_hum (s : State) (e : BusEvent) : (s.record e).hum = s.hum := rfl
@[simp] theorem State.record_f0 (s : State) (e : BusEvent) : (s.record e).f0 = s.f0 := rfl
@[simp] theorem State.record_f1 (s : State) (e : BusEvent) : (s.record e).f1 = s.f1 := rfl
@[simp] theorem State.record_events (s : State) (e : BusEvent) : (s.record e).events = s.events := rfl
@[simp] theorem State.record_answers (s : State) (e : BusEvent) : (s.record e).answers = s.answers := rfl
@[simp] theorem State.record_nonce (s : State) (e : BusEvent) : (s.record e).nonce = s.nonce := rfl
@[simp] theorem State.record_history (s : State) (e : BusEvent) : (s.record e).history = s.history ++ [e] := rfl
@[simp] theorem State.record_responses (s : State) (e : BusEvent) : (s.record e).responses = s.responses := rfl

/-! `respond` writes `responses` alone. -/
@[simp] theorem State.respond_params (s : State) (r : Response) : (s.respond r).params = s.params := rfl
@[simp] theorem State.respond_init (s : State) (r : Response) : (s.respond r).init = s.init := rfl
@[simp] theorem State.respond_cal (s : State) (r : Response) : (s.respond r).cal = s.cal := rfl
@[simp] theorem State.respond_tFine (s : State) (r : Response) : (s.respond r).tFine = s.tFine := rfl
@[simp] theorem State.respond_raw (s : State) (r : Response) : (s.respond r).raw = s.raw := rfl
@[simp] theorem State.respond_temp (s : State) (r : Response) : (s.respond r).temp = s.temp := rfl
@[simp] theorem State.respond_press (s : State) (r : Response) : (s.respond r).press = s.press := rfl
@[simp] theorem State.respond_hum (s : State) (r : Response) : (s.respond r).hum = s.hum := rfl
@[simp] theorem State.respond_f0 (s : State) (r : Response) : (s.respond r).f0 = s.f0 := rfl
@[simp] theorem State.respond_f1 (s : State) (r : Response) : (s.respond r).f1 = s.f1 := rfl
@[simp] theorem State.respond_events (s : State) (r : Response) : (s.respond r).events = s.events := rfl
@[simp] theorem State.respond_answers (s : State) (r : Response) : (s.respond r).answers = s.answers := rfl
@[simp] theorem State.respond_nonce (s : State) (r : Response) : (s.respond r).nonce = s.nonce := rfl
@[simp] theorem State.respond_history (s : State) (r : Response) : (s.respond r).history = s.history := rfl
@[simp] theorem State.respond_responses (s : State) (r : Response) : (s.respond r).responses = s.responses ++ [r] := rfl

/-! `raise` writes `responses` alone. -/
@[simp] theorem State.raise_params (s : State) (k : ErrorKind) : (s.raise k).params = s.params := rfl
@[simp] theorem State.raise_init (s : State) (k : ErrorKind) : (s.raise k).init = s.init := rfl
@[simp] theorem State.raise_cal (s : State) (k : ErrorKind) : (s.raise k).cal = s.cal := rfl
@[simp] theorem State.raise_tFine (s : State) (k : ErrorKind) : (s.raise k).tFine = s.tFine := rfl
@[simp] theorem State.raise_raw (s : State) (k : ErrorKind) : (s.raise k).raw = s.raw := rfl
@[simp] theorem State.raise_temp (s : State) (k : ErrorKind) : (s.raise k).temp = s.temp := rfl
@[simp] theorem State.raise_press (s : State) (k : ErrorKind) : (s.raise k).press = s.press := rfl
@[simp] theorem State.raise_hum (s : State) (k : ErrorKind) : (s.raise k).hum = s.hum := rfl
@[simp] theorem State.raise_f0 (s : State) (k : ErrorKind) : (s.raise k).f0 = s.f0 := rfl
@[simp] theorem State.raise_f1 (s : State) (k : ErrorKind) : (s.raise k).f1 = s.f1 := rfl
@[simp] theorem State.raise_events (s : State) (k : ErrorKind) : (s.raise k).events = s.events := rfl
@[simp] theorem State.raise_answers (s : State) (k : ErrorKind) : (s.raise k).answers = s.answers := rfl
@[simp] theorem State.raise_nonce (s : State) (k : ErrorKind) : (s.raise k).nonce = s.nonce := rfl
@[simp] theorem State.raise_history (s : State) (k : ErrorKind) : (s.raise k).history = s.history := rfl
@[simp] theorem State.raise_responses (s : State) (k : ErrorKind) : (s.raise k).responses = s.responses ++ [.err k] := rfl

/-! `dropAnswer` writes `answers` and `nonce` alone. -/
@[simp] theorem State.dropAnswer_params (s : State) : s.dropAnswer.params = s.params := by unfold State.dropAnswer; split <;> rfl
@[simp] theorem State.dropAnswer_init (s : State) : s.dropAnswer.init = s.init := by unfold State.dropAnswer; split <;> rfl
@[simp] theorem State.dropAnswer_cal (s : State) : s.dropAnswer.cal = s.cal := by unfold State.dropAnswer; split <;> rfl
@[simp] theorem State.dropAnswer_tFine (s : State) : s.dropAnswer.tFine = s.tFine := by unfold State.dropAnswer; split <;> rfl
@[simp] theorem State.dropAnswer_raw (s : State) : s.dropAnswer.raw = s.raw := by unfold State.dropAnswer; split <;> rfl
@[simp] theorem State.dropAnswer_temp (s : State) : s.dropAnswer.temp = s.temp := by unfold State.dropAnswer; split <;> rfl
@[simp] theorem State.dropAnswer_press (s : State) : s.dropAnswer.press = s.press := by unfold State.dropAnswer; split <;> rfl
@[simp] theorem State.dropAnswer_hum (s : State) : s.dropAnswer.hum = s.hum := by unfold State.dropAnswer; split <;> rfl
@[simp] theorem State.dropAnswer_f0 (s : State) : s.dropAnswer.f0 = s.f0 := by unfold State.dropAnswer; split <;> rfl
@[simp] theorem State.dropAnswer_f1 (s : State) : s.dropAnswer.f1 = s.f1 := by unfold State.dropAnswer; split <;> rfl
@[simp] theorem State.dropAnswer_events (s : State) : s.dropAnswer.events = s.events := by unfold State.dropAnswer; split <;> rfl
@[simp] theorem State.dropAnswer_history (s : State) : s.dropAnswer.history = s.history := by unfold State.dropAnswer; split <;> rfl
@[simp] theorem State.dropAnswer_responses (s : State) : s.dropAnswer.responses = s.responses := by unfold State.dropAnswer; split <;> rfl

theorem State.dropAnswer_of_cons {s : State} {a : BusAnswer} {rest : List BusAnswer} (h : s.answers = a :: rest) :
    s.dropAnswer = { s with answers := rest } := by simp [State.dropAnswer, h]

theorem State.dropAnswer_of_nil {s : State} (h : s.answers = []) :
    s.dropAnswer = { s with nonce := s.nonce + 1 } := by simp [State.dropAnswer, h]

theorem State.nextAnswer_of_cons {s : State} {a : BusAnswer} {rest : List BusAnswer} (h : s.answers = a :: rest) :
    s.nextAnswer = a := by simp [State.nextAnswer, h]

/-! `powerOnReset` keeps the parameters and the ports' records. -/
@[simp] theorem State.powerOnReset_params (s : State) : s.powerOnReset.params = s.params := rfl
@[simp] theorem State.powerOnReset_events (s : State) : s.powerOnReset.events = s.events := rfl
@[simp] theorem State.powerOnReset_answers (s : State) : s.powerOnReset.answers = s.answers := rfl
@[simp] theorem State.powerOnReset_history (s : State) : s.powerOnReset.history = s.history := rfl
@[simp] theorem State.powerOnReset_responses (s : State) : s.powerOnReset.responses = s.responses := rfl
@[simp] theorem State.powerOnReset_init (s : State) : s.powerOnReset.init = false := rfl

/-! The collaborator's next answer, and taking it, have nothing to do with the other updates. -/
@[simp] theorem State.nextAnswer_setInit (s : State) (b : Bool) : (s.setInit b).nextAnswer = s.nextAnswer := rfl
@[simp] theorem State.nextAnswer_setCal (s : State) (c : Calibration) : (s.setCal c).nextAnswer = s.nextAnswer := rfl
@[simp] theorem State.nextAnswer_setTFine (s : State) (v : BitVec 32) : (s.setTFine v).nextAnswer = s.nextAnswer := rfl
@[simp] theorem State.nextAnswer_setRaw (s : State) (v : BitVec 32) : (s.setRaw v).nextAnswer = s.nextAnswer := rfl
@[simp] theorem State.nextAnswer_setTemp (s : State) (r : TempRegs) : (s.setTemp r).nextAnswer = s.nextAnswer := rfl
@[simp] theorem State.nextAnswer_setPress (s : State) (r : PressRegs) : (s.setPress r).nextAnswer = s.nextAnswer := rfl
@[simp] theorem State.nextAnswer_setHum (s : State) (r : HumRegs) : (s.setHum r).nextAnswer = s.nextAnswer := rfl
@[simp] theorem State.nextAnswer_setF0 (s : State) (v : Flt) : (s.setF0 v).nextAnswer = s.nextAnswer := rfl
@[simp] theorem State.nextAnswer_setF1 (s : State) (v : Flt) : (s.setF1 v).nextAnswer = s.nextAnswer := rfl
@[simp] theorem State.nextAnswer_setEvents (s : State) (es : List HostEvent) : (s.setEvents es).nextAnswer = s.nextAnswer := rfl
@[simp] theorem State.nextAnswer_record (s : State) (e : BusEvent) : (s.record e).nextAnswer = s.nextAnswer := rfl
@[simp] theorem State.nextAnswer_respond (s : State) (r : Response) : (s.respond r).nextAnswer = s.nextAnswer := rfl
@[simp] theorem State.nextAnswer_raise (s : State) (k : ErrorKind) : (s.raise k).nextAnswer = s.nextAnswer := rfl
@[simp] theorem State.dropAnswer_of_setInit (s : State) (b : Bool) : (s.setInit b).dropAnswer = s.dropAnswer.setInit b := by
  rcases s with ⟨_, _, _, _, _, _, _, _, _, _, _, _ | _, _, _, _⟩ <;> rfl
@[simp] theorem State.dropAnswer_of_setCal (s : State) (c : Calibration) : (s.setCal c).dropAnswer = s.dropAnswer.setCal c := by
  rcases s with ⟨_, _, _, _, _, _, _, _, _, _, _, _ | _, _, _, _⟩ <;> rfl
@[simp] theorem State.dropAnswer_of_setTFine (s : State) (v : BitVec 32) : (s.setTFine v).dropAnswer = s.dropAnswer.setTFine v := by
  rcases s with ⟨_, _, _, _, _, _, _, _, _, _, _, _ | _, _, _, _⟩ <;> rfl
@[simp] theorem State.dropAnswer_of_setRaw (s : State) (v : BitVec 32) : (s.setRaw v).dropAnswer = s.dropAnswer.setRaw v := by
  rcases s with ⟨_, _, _, _, _, _, _, _, _, _, _, _ | _, _, _, _⟩ <;> rfl
@[simp] theorem State.dropAnswer_of_setTemp (s : State) (r : TempRegs) : (s.setTemp r).dropAnswer = s.dropAnswer.setTemp r := by
  rcases s with ⟨_, _, _, _, _, _, _, _, _, _, _, _ | _, _, _, _⟩ <;> rfl
@[simp] theorem State.dropAnswer_of_setPress (s : State) (r : PressRegs) : (s.setPress r).dropAnswer = s.dropAnswer.setPress r := by
  rcases s with ⟨_, _, _, _, _, _, _, _, _, _, _, _ | _, _, _, _⟩ <;> rfl
@[simp] theorem State.dropAnswer_of_setHum (s : State) (r : HumRegs) : (s.setHum r).dropAnswer = s.dropAnswer.setHum r := by
  rcases s with ⟨_, _, _, _, _, _, _, _, _, _, _, _ | _, _, _, _⟩ <;> rfl
@[simp] theorem State.dropAnswer_of_setF0 (s : State) (v : Flt) : (s.setF0 v).dropAnswer = s.dropAnswer.setF0 v := by
  rcases s with ⟨_, _, _, _, _, _, _, _, _, _, _, _ | _, _, _, _⟩ <;> rfl
@[simp] theorem State.dropAnswer_of_setF1 (s : State) (v : Flt) : (s.setF1 v).dropAnswer = s.dropAnswer.setF1 v := by
  rcases s with ⟨_, _, _, _, _, _, _, _, _, _, _, _ | _, _, _, _⟩ <;> rfl
@[simp] theorem State.dropAnswer_of_setEvents (s : State) (es : List HostEvent) : (s.setEvents es).dropAnswer = s.dropAnswer.setEvents es := by
  rcases s with ⟨_, _, _, _, _, _, _, _, _, _, _, _ | _, _, _, _⟩ <;> rfl
@[simp] theorem State.dropAnswer_of_record (s : State) (e : BusEvent) : (s.record e).dropAnswer = s.dropAnswer.record e := by
  rcases s with ⟨_, _, _, _, _, _, _, _, _, _, _, _ | _, _, _, _⟩ <;> rfl
@[simp] theorem State.dropAnswer_of_respond (s : State) (r : Response) : (s.respond r).dropAnswer = s.dropAnswer.respond r := by
  rcases s with ⟨_, _, _, _, _, _, _, _, _, _, _, _ | _, _, _, _⟩ <;> rfl
@[simp] theorem State.dropAnswer_of_raise (s : State) (k : ErrorKind) : (s.raise k).dropAnswer = s.dropAnswer.raise k := by
  rcases s with ⟨_, _, _, _, _, _, _, _, _, _, _, _ | _, _, _, _⟩ <;> rfl

@[simp] theorem State.dropAnswers_params (s : State) (n : Nat) : (s.dropAnswers n).params = s.params := by
  induction n generalizing s with
  | zero => rfl
  | succ n ih => rw [State.dropAnswers, ih, State.dropAnswer_params]
@[simp] theorem State.dropAnswers_init (s : State) (n : Nat) : (s.dropAnswers n).init = s.init := by
  induction n generalizing s with
  | zero => rfl
  | succ n ih => rw [State.dropAnswers, ih, State.dropAnswer_init]
@[simp] theorem State.dropAnswers_cal (s : State) (n : Nat) : (s.dropAnswers n).cal = s.cal := by
  induction n generalizing s with
  | zero => rfl
  | succ n ih => rw [State.dropAnswers, ih, State.dropAnswer_cal]
@[simp] theorem State.dropAnswers_tFine (s : State) (n : Nat) : (s.dropAnswers n).tFine = s.tFine := by
  induction n generalizing s with
  | zero => rfl
  | succ n ih => rw [State.dropAnswers, ih, State.dropAnswer_tFine]
@[simp] theorem State.dropAnswers_raw (s : State) (n : Nat) : (s.dropAnswers n).raw = s.raw := by
  induction n generalizing s with
  | zero => rfl
  | succ n ih => rw [State.dropAnswers, ih, State.dropAnswer_raw]
@[simp] theorem State.dropAnswers_temp (s : State) (n : Nat) : (s.dropAnswers n).temp = s.temp := by
  induction n generalizing s with
  | zero => rfl
  | succ n ih => rw [State.dropAnswers, ih, State.dropAnswer_temp]
@[simp] theorem State.dropAnswers_press (s : State) (n : Nat) : (s.dropAnswers n).press = s.press := by
  induction n generalizing s with
  | zero => rfl
  | succ n ih => rw [State.dropAnswers, ih, State.dropAnswer_press]
@[simp] theorem State.dropAnswers_hum (s : State) (n : Nat) : (s.dropAnswers n).hum = s.hum := by
  induction n generalizing s with
  | zero => rfl
  | succ n ih => rw [State.dropAnswers, ih, State.dropAnswer_hum]
@[simp] theorem State.dropAnswers_f0 (s : State) (n : Nat) : (s.dropAnswers n).f0 = s.f0 := by
  induction n generalizing s with
  | zero => rfl
  | succ n ih => rw [State.dropAnswers, ih, State.dropAnswer_f0]
@[simp] theorem State.dropAnswers_f1 (s : State) (n : Nat) : (s.dropAnswers n).f1 = s.f1 := by
  induction n generalizing s with
  | zero => rfl
  | succ n ih => rw [State.dropAnswers, ih, State.dropAnswer_f1]
@[simp] theorem State.dropAnswers_events (s : State) (n : Nat) : (s.dropAnswers n).events = s.events := by
  induction n generalizing s with
  | zero => rfl
  | succ n ih => rw [State.dropAnswers, ih, State.dropAnswer_events]
@[simp] theorem State.dropAnswers_history (s : State) (n : Nat) : (s.dropAnswers n).history = s.history := by
  induction n generalizing s with
  | zero => rfl
  | succ n ih => rw [State.dropAnswers, ih, State.dropAnswer_history]
@[simp] theorem State.dropAnswers_responses (s : State) (n : Nat) : (s.dropAnswers n).responses = s.responses := by
  induction n generalizing s with
  | zero => rfl
  | succ n ih => rw [State.dropAnswers, ih, State.dropAnswer_responses]

end Sys2Proof.Machine
end

