-- ==== Sys2Proof/Laws/Ops.lean ====
section
/-!
SUPPORT. What each shared operation can do, said once: a prover cites these and does not unfold the operation.
-/
namespace Sys2Proof.Machine

/-! The bus primitives: on success the rest of the command runs, on failure the error is raised (R8). -/

theorem State.memRead_ok {s : State} {addr : Byte} {n : Nat} {h : n ≤ maxRead} {k : (Fin n → Byte) → State → State}
    {w : Window} (hw : s.nextAnswer = .ok w) :
    s.memRead addr n h k = k (Window.get w h) (s.dropAnswer.record (.read addr (w.val.take n))) := by
  simp [State.memRead, hw]

theorem State.memRead_error {s : State} {addr : Byte} {n : Nat} {h : n ≤ maxRead} {k : (Fin n → Byte) → State → State}
    {e : BusErr} (he : s.nextAnswer = .error e) :
    s.memRead addr n h k = (s.dropAnswer.record (.readFailed addr n e)).raise (.busError e) := by
  simp [State.memRead, he]

theorem State.memWrite_ok {s : State} {addr v : Byte} {k : State → State} {w : Window} (hw : s.nextAnswer = .ok w) :
    s.memWrite addr v k = k (s.dropAnswer.record (.wrote addr v)) := by
  simp [State.memWrite, hw]

theorem State.memWrite_error {s : State} {addr v : Byte} {k : State → State} {e : BusErr} (he : s.nextAnswer = .error e) :
    s.memWrite addr v k = (s.dropAnswer.record (.writeFailed addr v e)).raise (.busError e) := by
  simp [State.memWrite, he]

/-- A property of what a read leads to: it holds on success and on failure. -/
theorem State.memRead_induct {Q : State → Prop} {s : State} {addr : Byte} {n : Nat} {h : n ≤ maxRead}
    {k : (Fin n → Byte) → State → State}
    (hok : ∀ w, s.nextAnswer = .ok w → Q (k (Window.get w h) (s.dropAnswer.record (.read addr (w.val.take n)))))
    (herr : ∀ e, s.nextAnswer = .error e → Q ((s.dropAnswer.record (.readFailed addr n e)).raise (.busError e))) :
    Q (s.memRead addr n h k) := by
  cases hs : s.nextAnswer with
  | ok w => rw [State.memRead_ok hs]; exact hok w hs
  | error e => rw [State.memRead_error hs]; exact herr e hs

/-- A property of what a write leads to: it holds on success and on failure. -/
theorem State.memWrite_induct {Q : State → Prop} {s : State} {addr v : Byte} {k : State → State}
    (hok : ∀ w, s.nextAnswer = .ok w → Q (k (s.dropAnswer.record (.wrote addr v))))
    (herr : ∀ e, s.nextAnswer = .error e → Q ((s.dropAnswer.record (.writeFailed addr v e)).raise (.busError e))) :
    Q (s.memWrite addr v k) := by
  cases hs : s.nextAnswer with
  | ok w => rw [State.memWrite_ok hs]; exact hok w hs
  | error e => rw [State.memWrite_error hs]; exact herr e hs

/-! The first step of a measurement command (R154). -/

theorem State.requireReady_ready {s : State} {k : State → State} (h : s.init = true) : s.requireReady k = k s := by
  simp [State.requireReady, h]

theorem State.requireReady_uninitialized {s : State} {k : State → State} (h : s.init = false) :
    s.requireReady k = s.raise .notInitialized := by
  simp [State.requireReady, h]

theorem State.requireReady_induct {Q : State → Prop} {s : State} {k : State → State} (hk : s.init = true → Q (k s))
    (hr : s.init = false → Q (s.raise .notInitialized)) : Q (s.requireReady k) := by
  cases h : s.init with
  | true => rw [State.requireReady_ready h]; exact hk h
  | false => rw [State.requireReady_uninitialized h]; exact hr h

/-- The state after an answered read of the sample registers has been unpacked into `RAW`. -/
def State.sampled (s : State) (addr : Byte) (bytes : List Byte) (raw : BitVec 32) : State :=
  (s.dropAnswer.record (.read addr bytes)).setRaw raw

/-- The state after the temperature chain has run on the sample in `RAW`. -/
def State.fineTemp (s : State) : State :=
  (s.setTemp (tempChain s.raw s.cal.t1 s.cal.t2 s.cal.t3)).setTFine (compT s.raw s.cal)

/-- `TempRead` can do two things: fail on the bus, or leave a fresh `T_FINE` (R103). -/
theorem State.tempRead_induct {Q : State → Prop} {s : State} {k : State → State}
    (hok : ∀ w, s.nextAnswer = .ok w →
      Q (k (s.sampled regTempData (w.val.take 3) (unpack20 (Window.get w (by decide)))).fineTemp))
    (herr : ∀ e, s.nextAnswer = .error e → Q ((s.dropAnswer.record (.readFailed regTempData 3 e)).raise (.busError e))) :
    Q (s.tempRead k) := by
  unfold State.tempRead State.fetchT
  exact State.memRead_induct hok herr

theorem State.fetchP_induct {Q : State → Prop} {s : State} {k : State → State}
    (hok : ∀ w, s.nextAnswer = .ok w →
      Q (k (s.sampled regPressureData (w.val.take 3) (unpack20 (Window.get w (by decide))))))
    (herr : ∀ e, s.nextAnswer = .error e →
      Q ((s.dropAnswer.record (.readFailed regPressureData 3 e)).raise (.busError e))) :
    Q (s.fetchP k) := by
  unfold State.fetchP
  exact State.memRead_induct hok herr

theorem State.fetchH_induct {Q : State → Prop} {s : State} {k : State → State}
    (hok : ∀ w, s.nextAnswer = .ok w →
      Q (k (s.sampled regHumidData (w.val.take 2) (unpack16 (Window.get w (by decide))))))
    (herr : ∀ e, s.nextAnswer = .error e → Q ((s.dropAnswer.record (.readFailed regHumidData 2 e)).raise (.busError e))) :
    Q (s.fetchH k) := by
  unfold State.fetchH
  exact State.memRead_induct hok herr

/-- The probe loop: a property `P` that every not-ready probe keeps gives `Q` at each of its three ends: ready,
failed on the bus, timed out (R71). -/
theorem State.pollReady_induct {P Q : State → Prop} {k : State → State}
    (hprobe : ∀ s w, P s → s.nextAnswer = .ok w → P (s.dropAnswer.record (.read s.params.readyReg (w.val.take 1))))
    (hready : ∀ s, P s → Q (k s))
    (herr : ∀ s e, P s → s.nextAnswer = .error e →
      Q ((s.dropAnswer.record (.readFailed s.params.readyReg 1 e)).raise (.busError e)))
    (htimeout : ∀ s, P s → Q (s.raise .resetTimeout)) :
    ∀ (n : Nat) (s : State), P s → Q (State.pollReady k n s) := by
  intro n
  induction n with
  | zero => exact fun s hs => htimeout s hs
  | succ n ih =>
    intro s hs
    unfold State.pollReady
    refine State.memRead_induct (fun w hw => ?_) (fun e he => herr s e hs he)
    have hp := hprobe s w hs hw
    split
    · exact hready _ hp
    · exact ih _ hp

end Sys2Proof.Machine
end

