-- ==== Sys2Proof/Laws/Bus.lean ====
section
/-!
SUPPORT. Runs of bus transactions: several recorded at once, several answers taken at once, and the probe loop of
`ResetSeq` over a run of answers.
-/
namespace Sys2Proof.Machine

/-- Two states are equal when their fields are. -/
theorem State.eq_of_fields {s t : State} (hparams : s.params = t.params) (hinit : s.init = t.init) (hcal : s.cal = t.cal)
    (htFine : s.tFine = t.tFine) (hraw : s.raw = t.raw) (htemp : s.temp = t.temp) (hpress : s.press = t.press)
    (hhum : s.hum = t.hum) (hf0 : s.f0 = t.f0) (hf1 : s.f1 = t.f1) (hevents : s.events = t.events)
    (hanswers : s.answers = t.answers) (hnonce : s.nonce = t.nonce) (hhistory : s.history = t.history)
    (hresponses : s.responses = t.responses) : s = t := by
  cases s; cases t; simp_all

/-- Several transactions enter the history, in order. -/
def State.recordAll (s : State) (es : List BusEvent) : State := { s with history := s.history ++ es }

@[simp] theorem State.recordAll_params (s : State) (es : List BusEvent) : (s.recordAll es).params = s.params := rfl
@[simp] theorem State.recordAll_init (s : State) (es : List BusEvent) : (s.recordAll es).init = s.init := rfl
@[simp] theorem State.recordAll_cal (s : State) (es : List BusEvent) : (s.recordAll es).cal = s.cal := rfl
@[simp] theorem State.recordAll_tFine (s : State) (es : List BusEvent) : (s.recordAll es).tFine = s.tFine := rfl
@[simp] theorem State.recordAll_raw (s : State) (es : List BusEvent) : (s.recordAll es).raw = s.raw := rfl
@[simp] theorem State.recordAll_temp (s : State) (es : List BusEvent) : (s.recordAll es).temp = s.temp := rfl
@[simp] theorem State.recordAll_press (s : State) (es : List BusEvent) : (s.recordAll es).press = s.press := rfl
@[simp] theorem State.recordAll_hum (s : State) (es : List BusEvent) : (s.recordAll es).hum = s.hum := rfl
@[simp] theorem State.recordAll_f0 (s : State) (es : List BusEvent) : (s.recordAll es).f0 = s.f0 := rfl
@[simp] theorem State.recordAll_f1 (s : State) (es : List BusEvent) : (s.recordAll es).f1 = s.f1 := rfl
@[simp] theorem State.recordAll_events (s : State) (es : List BusEvent) : (s.recordAll es).events = s.events := rfl
@[simp] theorem State.recordAll_answers (s : State) (es : List BusEvent) : (s.recordAll es).answers = s.answers := rfl
@[simp] theorem State.recordAll_nonce (s : State) (es : List BusEvent) : (s.recordAll es).nonce = s.nonce := rfl
@[simp] theorem State.recordAll_history (s : State) (es : List BusEvent) : (s.recordAll es).history = s.history ++ es := rfl
@[simp] theorem State.recordAll_responses (s : State) (es : List BusEvent) : (s.recordAll es).responses = s.responses := rfl

@[simp] theorem State.nextAnswer_recordAll (s : State) (es : List BusEvent) : (s.recordAll es).nextAnswer = s.nextAnswer := rfl

@[simp] theorem State.dropAnswer_of_recordAll (s : State) (es : List BusEvent) :
    (s.recordAll es).dropAnswer = s.dropAnswer.recordAll es := by
  rcases s with ⟨_, _, _, _, _, _, _, _, _, _, _, _ | _, _, _, _⟩ <;> rfl

@[simp] theorem State.recordAll_record (s : State) (es : List BusEvent) (e : BusEvent) :
    (s.recordAll es).record e = s.recordAll (es ++ [e]) := by simp [State.recordAll, State.record]

@[simp] theorem State.recordAll_recordAll (s : State) (es fs : List BusEvent) :
    (s.recordAll es).recordAll fs = s.recordAll (es ++ fs) := by simp [State.recordAll]

theorem State.record_eq_recordAll (s : State) (e : BusEvent) : s.record e = s.recordAll [e] := rfl

theorem State.recordAll_nil (s : State) : s.recordAll [] = s := by simp [State.recordAll]

/-! Taking several answers commutes with the updates that have nothing to do with answers. -/

@[simp] theorem State.dropAnswers_of_recordAll (s : State) (es : List BusEvent) (n : Nat) :
    (s.recordAll es).dropAnswers n = (s.dropAnswers n).recordAll es := by
  induction n generalizing s with
  | zero => rfl
  | succ n ih => simp [State.dropAnswers, ih]

@[simp] theorem State.dropAnswers_of_setInit (s : State) (b : Bool) (n : Nat) :
    (s.setInit b).dropAnswers n = (s.dropAnswers n).setInit b := by
  induction n generalizing s with
  | zero => rfl
  | succ n ih => simp [State.dropAnswers, ih]

theorem State.dropAnswers_add (s : State) (m n : Nat) : s.dropAnswers (m + n) = (s.dropAnswers m).dropAnswers n := by
  induction m generalizing s with
  | zero => simp [State.dropAnswers]
  | succ m ih => rw [Nat.succ_add, State.dropAnswers, ih, State.dropAnswers]

theorem State.dropAnswers_dropAnswer (s : State) (n : Nat) : (s.dropAnswers n).dropAnswer = s.dropAnswers (n + 1) := by
  rw [State.dropAnswers_add]; rfl

@[simp] theorem State.answersBegin_recordAll (s : State) (es : List BusEvent) (as : List BusAnswer) :
    (s.recordAll es).answersBegin as ↔ s.answersBegin as := by
  induction as generalizing s with
  | nil => simp [State.answersBegin]
  | cons a as ih => simp [State.answersBegin, ih]

@[simp] theorem State.answersBegin_setInit (s : State) (b : Bool) (as : List BusAnswer) :
    (s.setInit b).answersBegin as ↔ s.answersBegin as := by
  induction as generalizing s with
  | nil => simp [State.answersBegin]
  | cons a as ih => simp [State.answersBegin, ih]

theorem State.answersBegin_append {s : State} {as bs : List BusAnswer} :
    s.answersBegin (as ++ bs) ↔ s.answersBegin as ∧ (s.dropAnswers as.length).answersBegin bs := by
  induction as generalizing s with
  | nil => simp [State.answersBegin, State.dropAnswers]
  | cons a as ih => simp [State.answersBegin, State.dropAnswers, ih, and_assoc]

/-- The transaction of an answered probe. -/
def probeEvent (p : Params) (w : Window) : BusEvent := .read p.readyReg (w.val.take 1)

/-- The probe loop over a run of answers none of which reports ready: that many probes, and the loop goes on. -/
theorem State.pollReady_skip (k : State → State) : ∀ (ws : List Window) (n : Nat) (s : State),
    s.answersBegin (ws.map .ok) → neverReady s.params ws →
    State.pollReady k (ws.length + n) s =
      State.pollReady k n ((s.dropAnswers ws.length).recordAll (ws.map (probeEvent s.params)))
  | [], n, s, _, _ => by simp [State.dropAnswers, State.recordAll]
  | w :: ws, n, s, h, hn => by
    simp only [List.map_cons, State.answersBegin] at h
    have hlen : (w :: ws).length + n = ws.length + n + 1 := by simp only [List.length_cons]; omega
    have hw : deviceReady s.params (firstByte w) = false := hn w (by simp)
    simp only [firstByte] at hw
    rw [hlen, State.pollReady, State.memRead_ok h.1]
    rw [if_neg (by simp [hw]), State.record_eq_recordAll,
      State.pollReady_skip k ws n _ (by simpa using h.2) (fun x hx => by simpa using hn x (List.mem_cons_of_mem _ hx))]
    simp only [State.recordAll_params, State.dropAnswer_params, State.dropAnswers_of_recordAll, State.recordAll_recordAll]
    rfl

/-- The probe loop ends at an answer that reports ready. -/
theorem State.pollReady_ready {k : State → State} {n : Nat} {s : State} {w : Window} (h : s.nextAnswer = .ok w)
    (hr : deviceReady s.params (firstByte w) = true) :
    State.pollReady k (n + 1) s = k (s.dropAnswer.recordAll [probeEvent s.params w]) := by
  simp only [firstByte] at hr
  rw [State.pollReady, State.memRead_ok h]
  simp [hr, State.record_eq_recordAll, probeEvent]

/-- The probe loop ends at a failed probe. -/
theorem State.pollReady_error {k : State → State} {n : Nat} {s : State} {e : BusErr} (h : s.nextAnswer = .error e) :
    State.pollReady k (n + 1) s =
      (s.dropAnswer.recordAll [.readFailed s.params.readyReg 1 e]).raise (.busError e) := by
  rw [State.pollReady, State.memRead_error h]; rfl

/-- The transactions of a run of answered probes. -/
theorem completed_probes (p : Params) : ∀ ws : List Window,
    completed (List.replicate ws.length (.read p.readyReg 1)) ws = ws.map (probeEvent p)
  | [] => rfl
  | w :: ws => by
    have ih := completed_probes p ws
    simp only [completed] at ih
    simp only [completed, List.length_cons, List.replicate_succ, List.zipWith, List.map_cons, ih]
    rfl

end Sys2Proof.Machine
end

