-- ==== Sys2Proof/Laws/PerInstr.lean ====
section
/-!
SUPPORT. Facts about each command as syntax, one lemma per constructor.
-/
namespace Sys2Proof.Laws.OpField

/-- The encoder puts the command's opcode in `op` and its argument in `arg`, and the word spells a command. -/
def Statement (i : Sys2Proof.Instr) : Prop :=
  (Sys2Proof.encode i).op = i.opcode ∧ (Sys2Proof.encode i).arg = i.argument ∧ (Sys2Proof.encode i).wellFormed = true

theorem setup : Statement .setup := by refine ⟨?_, ?_, ?_⟩ <;> decide
theorem softReset : Statement .softReset := by refine ⟨?_, ?_, ?_⟩ <;> decide
theorem readTemperature : Statement .readTemperature := by refine ⟨?_, ?_, ?_⟩ <;> decide
theorem readPressure : Statement .readPressure := by refine ⟨?_, ?_, ?_⟩ <;> decide
theorem readHumidity : Statement .readHumidity := by refine ⟨?_, ?_, ?_⟩ <;> decide
theorem readAltitude (seaLevelHpa : BitVec 64) : Statement (.readAltitude seaLevelHpa) := by
  have hop : (Sys2Proof.encode (.readAltitude seaLevelHpa)).op = 0x05#8 := by
    unfold Sys2Proof.encode Sys2Proof.CommandWord.op Sys2Proof.Instr.opcode Sys2Proof.Instr.argument
    exact BitVec.extractLsb'_append_eq_left
  refine ⟨hop, ?_, ?_⟩
  · unfold Sys2Proof.encode Sys2Proof.CommandWord.arg Sys2Proof.Instr.opcode Sys2Proof.Instr.argument
    exact BitVec.extractLsb'_append_eq_right
  · unfold Sys2Proof.CommandWord.wellFormed
    rw [hop]
    decide

end Sys2Proof.Laws.OpField
end

