-- ==== Sys2Proof/Tests/Slice0.lean ====
section
/-!
SUPPORT. Tests, and for each statement with hypotheses a witness that meets them. Every expected value is one that
spec/ prints; the comment names it.
-/
namespace Sys2Proof.Tests
open Sys2Proof Sys2Proof.Machine

/-! Well-formedness: a reserved word (30_encoding.md R53) and a poll bound of 0 (00_scope.md R6) are refused. -/

theorem test_reserved_word_is_ill_formed : CommandWord.wellFormed 0x060000000000000000#72 = false := by decide
theorem test_last_reserved_word_is_ill_formed : CommandWord.wellFormed 0xFF0000000000000000#72 = false := by decide
theorem test_poll_max_zero_is_ill_formed : Params.wellFormed { Params.default with resetPollMax := 0 } = false := by decide
theorem test_default_params_are_well_formed : Params.default.wellFormed = true := by decide

/-! Decoding: words written out from R50, R51 (95_test_vectors.md, programs P1 to P5). -/

theorem test_decode_setup : decodeTableWord 72 0x000000000000000000 = some .setup := by decide
theorem test_decode_setup_ignores_arg : decodeTableWord 72 0x00FFFFFFFFFFFFFFFF = some .setup := by decide
theorem test_decode_soft_reset : decodeTableWord 72 0x010000000000000000 = some .softReset := by decide
theorem test_decode_read_temperature : decodeTableWord 72 0x020000000000000000 = some .readTemperature := by decide
theorem test_decode_read_pressure : decodeTableWord 72 0x030000000000000000 = some .readPressure := by decide
theorem test_decode_read_humidity : decodeTableWord 72 0x040000000000000000 = some .readHumidity := by decide
theorem test_decode_read_altitude :
    decodeTableWord 72 0x05408FAA0000000000 = some (.readAltitude 0x408FAA0000000000#64) := by decide
theorem test_decode_reserved : decodeTableWord 72 0x060000000000000000 = none := by decide
theorem test_encode_read_altitude : encode (.readAltitude 0x408FAA0000000000#64) = 0x05408FAA0000000000#72 := by decide

/-! A small state: the example coefficients EX of 95_test_vectors.md, a script of answers, one command. -/

/-- An answer whose first bytes are these; the bytes after them are never read. -/
def window (bs : List Byte) : Window := ⟨(bs ++ List.replicate 26 0x00#8).take 26, by simp [maxRead]⟩

def exampleCal : Calibration :=
  { t1 := 27504#16, t2 := 26435#16, t3 := BitVec.ofInt 16 (-1000), p1 := 36477#16, p2 := BitVec.ofInt 16 (-10685)
    p3 := 3024#16, p4 := 2855#16, p5 := 140#16, p6 := BitVec.ofInt 16 (-7), p7 := 15500#16
    p8 := BitVec.ofInt 16 (-14600), p9 := 6000#16, h1 := 75#8, h2 := 367#16, h3 := 0#8, h4 := 301#16, h5 := 50#16
    h6 := 30#8 }

/-- Ready with EX, the answers to come and the command word presented. -/
def ready (answers : List BusAnswer) (word : CommandWord) : State :=
  { State.reset with init := true, cal := exampleCal, answers := answers, events := [.command word] }

def stateAfter : Host.Outcome State Fault Refusal → Option State
  | .next s => some s
  | .fault _ => none
  | .refused _ => none

def responsesAfter (s : State) : Option (List Response) := (stateAfter (step s)).map (·.responses)

def value (bits : BitVec 64) : Response := .value (Flt.ofBits bits)

def idBytes : Window := window [0x60#8]
def ackBytes : Window := window []
def readyBytes : Window := window [0x00#8]
def busyBytes : Window := window [0x01#8]
def tempBytes : Window := window [0x7E#8, 0xED#8, 0x00#8]
def pressBytes : Window := window [0x65#8, 0x5A#8, 0xC0#8]
def humBytes : Window := window [0x75#8, 0x30#8]
def blockA : Window := window [0x70#8, 0x6B#8, 0x43#8, 0x67#8, 0x18#8, 0xFC#8, 0x7D#8, 0x8E#8, 0x43#8, 0xD6#8, 0xD0#8,
  0x0B#8, 0x27#8, 0x0B#8, 0x8C#8, 0x00#8, 0xF9#8, 0xFF#8, 0x8C#8, 0x3C#8, 0xF8#8, 0xC6#8, 0x70#8, 0x17#8, 0x00#8, 0x4B#8]
def blockB : Window := window [0x6F#8, 0x01#8, 0x00#8, 0x12#8, 0x2D#8, 0x03#8, 0x1E#8]

/-! Steps (95_test_vectors.md 2.7, 2.8, 3). -/

/-- Q1, K1: SETUP ends Ready with EX. -/
theorem test_setup_loads_example : (stateAfter (step (ready ([idBytes, ackBytes, readyBytes, blockA, blockB, ackBytes,
    ackBytes, ackBytes].map .ok) 0x000000000000000000#72))).map (fun s => (s.init, s.cal, s.responses)) =
    some (true, exampleCal, [.ok]) := by decide +kernel

/-- Q8: the second configuration write fails; Uninitialized, CONFIG not written. -/
theorem test_setup_second_write_fails : (stateAfter (step (ready ([idBytes, ackBytes, readyBytes, blockA, blockB,
    ackBytes].map .ok ++ [.error 7]) 0x000000000000000000#72))).map
    (fun s => (s.init, s.history.getLast?, s.responses)) =
    some (false, some (.writeFailed 0xF4#8 0x27#8 7), [.err (.busError 7)]) := by decide +kernel

/-- Q9: SOFT_RESET in the Ready state. -/
theorem test_soft_reset_leaves_uninitialized : (stateAfter (step (ready ([ackBytes, readyBytes].map .ok)
    0x010000000000000000#72))).map (fun s => (s.init, s.history, s.responses)) =
    some (false, [.wrote 0xE0#8 0xB6#8, .read 0xF3#8 [0x00#8]], [.ok]) := by decide +kernel

/-- Q12: the reset write fails. -/
theorem test_soft_reset_write_fails : (stateAfter (step (ready [.error 3] 0x010000000000000000#72))).map
    (fun s => (s.init, s.history, s.responses)) =
    some (false, [.writeFailed 0xE0#8 0xB6#8 3], [.err (.busError 3)]) := by decide +kernel

/-- M3: 25.082421875. -/
theorem test_read_temperature_example :
    responsesAfter (ready [.ok tempBytes] 0x020000000000000000#72) = some [value 0x403915199999999A#64] := by decide +kernel

/-- T3: sample 0, -140.8791015625, where truncating instead of flooring would differ. -/
theorem test_read_temperature_floors :
    responsesAfter (ready [.ok (window [])] 0x020000000000000000#72) = some [value 0xC0619C219999999A#64] := by decide +kernel

/-- M5: 1006.5325390625. -/
theorem test_read_pressure_example : responsesAfter (ready [.ok tempBytes, .ok pressBytes] 0x030000000000000000#72) =
    some [value 0x408F7442A3D70A3D#64] := by decide +kernel

/-- P3: sample 1048575, a negative quotient truncated toward zero, -66.30875. -/
theorem test_read_pressure_truncates :
    responsesAfter (ready [.ok tempBytes, .ok (window [0xFF#8, 0xFF#8, 0xF0#8])] 0x030000000000000000#72) =
      some [value 0xC05093C28F5C28F6#64] := by decide +kernel

/-- M9: 60.0771484375. -/
theorem test_read_humidity_example : responsesAfter (ready [.ok tempBytes, .ok humBytes] 0x040000000000000000#72) =
    some [value 0x404E09E000000000#64] := by decide +kernel

/-- M10: sample 40000, clamped to 100.0. -/
theorem test_read_humidity_clamps :
    responsesAfter (ready [.ok tempBytes, .ok (window [0x9C#8, 0x40#8])] 0x040000000000000000#72) =
      some [value 0x4059000000000000#64] := by decide +kernel

/-- M13: the operand equals the pressure, 0.0. -/
theorem test_read_altitude_at_sea_level :
    responsesAfter (ready [.ok tempBytes, .ok pressBytes] 0x05408F7442A3D70A3D#72) = some [value 0x0000000000000000#64] := by
  decide +kernel

/-- Program P4, command 3: dig_P1 = 0, 44330.0. -/
theorem test_read_altitude_zero_denominator :
    responsesAfter { ready [.ok tempBytes, .ok pressBytes] 0x05408FAA0000000000#72 with
      cal := { exampleCal with p1 := 0#16 } } = some [value 0x40E5A54000000000#64] := by decide +kernel

/-! The unpackers and the decode at values that tell byte orders and nibbles apart. -/

/-- U11: 12 34 56 is 0x12345. -/
theorem test_unpack20_order : unpack20 (Window.get (window [0x12#8, 0x34#8, 0x56#8]) (by decide)) = 0x12345#32 := by decide
/-- U18: 12 34 is 0x1234. -/
theorem test_unpack16_order : unpack16 (Window.get (window [0x12#8, 0x34#8]) (by decide)) = 0x1234#32 := by decide
/-- K5: H4 = 0x78A, H5 = 0xBC9. -/
theorem test_packed_nibbles : (fun c : Calibration => (c.h4, c.h5))
    (calDecode false (Window.get (window []) (by decide))
      (Window.get (window [0x34#8, 0x12#8, 0x56#8, 0x78#8, 0x9A#8, 0xBC#8, 0xDE#8]) (by decide))) =
    (0x78A#16, 0xBC9#16) := by decide
/-- R59: the default images. -/
theorem test_control_images : (controlHumidImage .x1, controlImage .x1 .x1 .normal, configImage 0#3 0#3 false) =
    (0x01#8, 0x27#8, 0x00#8) := by decide
/-- The ratio of vector A1, 0.9933703815075252. -/
theorem test_altitude_ratio : altitudeRatio (Flt.ofBits 0x408F7442A3D70A3D#64) (seaLevel 0x408FAA0000000000#64) =
    Flt.ofBits 0x3FEFC9B0AEAC79C4#64 := by decide +kernel

/-! Reset: every command runs as the first after reset. -/

theorem test_reset_runs_setup : ∃ t, step (State.reset.withFetchWord 72 0x000000000000000000) = .next t := ⟨_, rfl⟩
theorem test_reset_measurement_not_initialized :
    ((stateAfter (step (State.reset.withFetchWord 72 0x05408FAA0000000000))).map (·.responses)) =
      some [.err .notInitialized] := by decide

/-! Witnesses: a concrete state and operands for the hypotheses of each statement that has any. -/

theorem witness_reserved_word : 6 ≤ (CommandWord.op 0x060000000000000000#72).toNat ∧
    (ready [] 0x060000000000000000#72).events = [.command 0x060000000000000000#72] := by decide

theorem witness_decode_of_encode : Instr.wellFormed (.readAltitude 0x408FAA0000000000#64) = true := rfl

theorem witness_decoded_word : decode 0x05408FAA0000000000#72 = .ok (.readAltitude 0x408FAA0000000000#64) ∧
    CommandWord.op 0x05408FAA0000000000#72 = 0x05#8 ∧ CommandWord.wellFormed 0x05408FAA0000000000#72 = true := ⟨rfl, rfl, rfl⟩

theorem witness_step_runs : (ready [] 0x020000000000000000#72).events = .command 0x020000000000000000#72 :: [] ∧
    decode 0x020000000000000000#72 = .ok .readTemperature := ⟨rfl, rfl⟩

theorem witness_broken_duties :
    { State.reset with events := [.overlap 0x00#72 0x00#72] }.events = .overlap 0x00#72 0x00#72 :: [] ∧
    { State.reset with events := [.intrusion 0x00#72] }.events = .intrusion 0x00#72 :: [] := ⟨rfl, rfl⟩

theorem witness_power_on_and_idle : { State.reset with events := [.powerOn] }.events = .powerOn :: [] ∧
    State.reset.events = [] := ⟨rfl, rfl⟩

/-- SETUP with three probes allowed. -/
def threeProbes (answers : List BusAnswer) : State :=
  { ready answers 0x000000000000000000#72 with params := { Params.default with resetPollMax := 3 } }

/-- Q2: the answers of a SETUP whose last probe allowed (number 2) is the first to report ready (its byte is 0xFE). -/
def lateAnswers : List Window :=
  [idBytes, ackBytes, busyBytes, window [0xFF#8], window [0xFE#8], blockA, blockB, ackBytes, ackBytes, ackBytes]

theorem witness_ready_at_last_probe : readyAt (threeProbes []).params 2 ((lateAnswers.drop 2).take 3) := by
  intro i w hw hi
  interval_cases i <;> (simp [lateAnswers] at hw; subst hw; decide)

theorem witness_setup_completes : let s := threeProbes (lateAnswers.map .ok)
    s.answersBegin (lateAnswers.map .ok) ∧ lateAnswers.length = 2 + 8 ∧ 2 < s.params.resetPollMax ∧
    lateAnswers.head?.map firstByte = some s.params.chipIdExpected ∧
    readyAt s.params 2 ((lateAnswers.drop 2).take 3) ∧ lateAnswers[2 + 3]? = some blockA ∧ lateAnswers[2 + 4]? = some blockB :=
  ⟨⟨rfl, rfl, rfl, rfl, rfl, rfl, rfl, rfl, rfl, rfl, trivial⟩, rfl, by decide, rfl, witness_ready_at_last_probe, rfl, rfl⟩

/-- The last transaction fails (Q8 one write later). -/
theorem witness_setup_last_write_fails : let s := threeProbes (lateAnswers.dropLast.map .ok ++ [.error 7])
    s.answersBegin (lateAnswers.dropLast.map .ok ++ [.error 7]) ∧ 2 < s.params.resetPollMax ∧
    (∀ w, lateAnswers.dropLast.head? = some w → firstByte w = s.params.chipIdExpected) ∧
    readyAt s.params 2 ((lateAnswers.dropLast.drop 2).take 3) ∧
    (setupRequests s.params 3)[lateAnswers.dropLast.length]? = some (.write 0xF5#8 0x00#8) := by
  refine ⟨⟨rfl, rfl, rfl, rfl, rfl, rfl, rfl, rfl, rfl, rfl, trivial⟩, by decide, ?_, witness_ready_at_last_probe, rfl⟩
  intro w hw
  cases hw
  rfl

theorem witness_setup_wrong_identity : (ready [.ok (window [0x58#8])] 0x00#72).nextAnswer = .ok (window [0x58#8]) ∧
    firstByte (window [0x58#8]) ≠ Params.default.chipIdExpected ∧ (ready [.error 1] 0x00#72).nextAnswer = .error 1 :=
  ⟨rfl, by decide, rfl⟩

/-- Q6 and Q10. -/
theorem witness_reset_timeout :
    ((ready ([idBytes, ackBytes, busyBytes].map .ok) 0x00#72).answersBegin ([idBytes, ackBytes, busyBytes].map .ok) ∧
      firstByte idBytes = Params.default.chipIdExpected ∧ [busyBytes].length = Params.default.resetPollMax ∧
      neverReady Params.default [busyBytes]) ∧
    ((threeProbes ([ackBytes, busyBytes, busyBytes, window [0x03#8]].map .ok)).answersBegin
        ([ackBytes, busyBytes, busyBytes, window [0x03#8]].map .ok) ∧
      [busyBytes, busyBytes, window [0x03#8]].length = (threeProbes []).params.resetPollMax ∧
      neverReady (threeProbes []).params [busyBytes, busyBytes, window [0x03#8]]) :=
  ⟨⟨⟨rfl, rfl, rfl, trivial⟩, rfl, rfl, by unfold neverReady; decide⟩,
    ⟨rfl, rfl, rfl, rfl, trivial⟩, rfl, by unfold neverReady; decide⟩

/-- Q9 and Q11. -/
theorem witness_soft_reset :
    ((ready ([ackBytes, readyBytes].map .ok) 0x00#72).answersBegin ([ackBytes, readyBytes].map .ok) ∧
      [readyBytes].length = 0 + 1 ∧ 0 < Params.default.resetPollMax ∧ readyAt Params.default 0 [readyBytes]) ∧
    ((threeProbes ([ackBytes, busyBytes].map .ok ++ [.error 2])).answersBegin ([ackBytes, busyBytes].map .ok ++ [.error 2]) ∧
      neverReady (threeProbes []).params [busyBytes] ∧
      (resetRequests (threeProbes []).params 3)[2]? = some (.read 0xF3#8 1)) := by
  refine ⟨⟨⟨rfl, rfl, trivial⟩, rfl, by decide, ?_⟩, ⟨rfl, rfl, rfl, trivial⟩, by unfold neverReady; decide, rfl⟩
  intro i w hw hi
  interval_cases i
  simp at hw
  subst hw
  decide

/-- For statements about every outcome of a command: each command has one. -/
theorem witness_outcomes : (∃ t, exec .setup State.reset = .next t) ∧ (∃ t, exec .softReset State.reset = .next t) ∧
    (∃ t, exec .readTemperature (ready [] 0x00#72) = .next t) ∧ (∃ t, exec .readPressure (ready [] 0x00#72) = .next t) ∧
    (∃ t, exec .readHumidity (ready [] 0x00#72) = .next t) ∧
    (∃ t, exec (.readAltitude 0x408FAA0000000000#64) (ready [] 0x00#72) = .next t) :=
  ⟨⟨_, rfl⟩, ⟨_, rfl⟩, ⟨_, rfl⟩, ⟨_, rfl⟩, ⟨_, rfl⟩, ⟨_, rfl⟩⟩

theorem witness_measurement_uninitialized : measurement (.readAltitude 0x7FF8000000000000#64) = true ∧
    State.reset.init = false := ⟨rfl, rfl⟩

/-- The four cases of a measurement command's result: Uninitialized, a failed first read, a failed second read, both
answered. -/
theorem witness_measurement_cases : State.reset.init = false ∧
    ((ready [.error 1] 0x00#72).init = true ∧ (ready [.error 1] 0x00#72).answersBegin [.error 1]) ∧
    ((ready [.ok tempBytes] 0x00#72).init = true ∧ (ready [.ok tempBytes] 0x00#72).answersBegin [.ok tempBytes]) ∧
    ((ready [.ok tempBytes, .error 1] 0x00#72).init = true ∧
      (ready [.ok tempBytes, .error 1] 0x00#72).answersBegin [.ok tempBytes, .error 1]) ∧
    ((ready [.ok tempBytes, .ok pressBytes] 0x00#72).init = true ∧
      (ready [.ok tempBytes, .ok pressBytes] 0x00#72).answersBegin [.ok tempBytes, .ok pressBytes]) :=
  ⟨rfl, ⟨rfl, rfl, trivial⟩, ⟨rfl, rfl, trivial⟩, ⟨rfl, rfl, rfl, trivial⟩, rfl, rfl, rfl, trivial⟩

theorem witness_register_a0 : let a : Fin 26 → Byte := fun _ => 0#8
    let a' : Fin 26 → Byte := fun i => if i = 24 then 0xAA#8 else 0#8
    ∀ i : Fin 26, i ≠ 24 → a i = a' i := by decide

theorem witness_low_nibble : let b : Fin 3 → Byte := fun _ => 0x10#8
    let b' : Fin 3 → Byte := fun i => if i = 2 then 0x1F#8 else 0x10#8
    b' 0 = b 0 ∧ b' 1 = b 1 ∧ (b' 2).toNat / 16 = (b 2).toNat / 16 ∧ b' 2 ≠ b 2 := by decide

/-- A signed division at the edge of its exclusion: -2^63 by 1, and the width of a shift. -/
theorem witness_division : 0 < 64 ∧ (1#64 : BitVec 64) ≠ 0#64 ∧
    ((BitVec.ofInt 64 (-(2 ^ 63))).toInt ≠ -(2 ^ 63) ∨ (1#64 : BitVec 64).toInt ≠ -1) := by decide

/-- The largest sample, and the example coefficients at both ends of a monotone pair. -/
theorem witness_temperature_samples : (1048575#32 : BitVec 32).toNat < 2 ^ 20 ∧ exampleCal.t1 = 27504#16 ∧
    exampleCal.t2 = 26435#16 ∧ exampleCal.t3 = BitVec.ofInt 16 (-1000) ∧
    (0#32 : BitVec 32).toNat ≤ (1048575#32 : BitVec 32).toNat := by decide

/-- P7: P1 = 0 makes the denominator zero, also in a whole READ_PRESSURE. -/
theorem witness_zero_denominator : let c := { exampleCal with p1 := 0#16 }
    pressAcc1 (pressPv 128422#32) c = 0#64 ∧ c.p1 = 0#16 ∧
    pressAcc1 (pressPv (compT (unpack20 (Window.get tempBytes (by decide))) c)) c = 0#64 ∧
    { ready [.ok tempBytes, .ok pressBytes] 0x00#72 with cal := c }.init = true := by decide +kernel

theorem witness_fine_temperature_range : (-4194224 ≤ (BitVec.ofInt 32 (-4194224)).toInt) ∧
    (4194144#32 : BitVec 32).toInt ≤ 4194144 := by decide

/-- P1 lies in the no-overflow domain. -/
theorem witness_novf_p : NovfP 415148 128422 exampleCal := by
  unfold NovfP fits; decide +kernel

/-- P1 meets the conditions (a) to (d). -/
theorem witness_novf_p_conditions :
    let pq := exactQuotient 415148 422 exampleCal
    |2 ^ 47 + exactAcc1Sum 422 exampleCal| * (exampleCal.p1.toNat : Int) ≤ 2 ^ 63 - 1 ∧ exactAcc1 422 exampleCal ≠ 0 ∧
    |(1048576 - 415148) * 2 ^ 31 - exactAcc2 422 exampleCal| ≤ 2951479051793528 ∧
    |exampleCal.p9.toInt| * (pq / 2 ^ 13) ^ 2 ≤ 2 ^ 63 - 1 ∧ |exampleCal.p8.toInt * pq| ≤ 2 ^ 63 - 1 ∧
    |pq + exactX1 pq exampleCal + exactX2 pq exampleCal| ≤ 2 ^ 63 - 1 ∧
    |exactPress 415148 128422 exampleCal| ≤ 2 ^ 63 - 1 := by
  have hq : exactQuotient 415148 422 exampleCal = 6600644165 := by decide +kernel
  have h1 : exactAcc1Sum 422 exampleCal = -18467047103 := by decide +kernel
  have h2 : exactAcc2 422 exampleCal = 98104795527812 := by decide +kernel
  have h3 : exactPress 415148 128422 exampleCal = 25767233 := by decide +kernel
  have h4 : exactX1 6600644165 exampleCal = 116089612 := by decide +kernel
  have h5 : exactX2 6600644165 exampleCal = -183810053 := by decide +kernel
  have hp1 : exampleCal.p1.toNat = 36477 := by decide
  have hp8 : exampleCal.p8.toInt = -14600 := by decide
  have hp9 : exampleCal.p9.toInt = 6000 := by decide
  refine ⟨?_, by decide +kernel, ?_, ?_, ?_, ?_, ?_⟩ <;> norm_num [hq, h1, h2, h3, h4, h5, hp1, hp8, hp9, abs_of_nonneg, abs_of_neg]

theorem witness_example_pressure : exampleCal.p1 = 36477#16 ∧ exampleCal.p2 = BitVec.ofInt 16 (-10685) ∧
    exampleCal.p3 = 3024#16 ∧ exampleCal.p4 = 2855#16 ∧ exampleCal.p5 = 140#16 ∧ exampleCal.p6 = BitVec.ofInt 16 (-7) ∧
    exampleCal.p7 = 15500#16 ∧ exampleCal.p8 = BitVec.ofInt 16 (-14600) ∧ exampleCal.p9 = 6000#16 ∧
    (0#32 : BitVec 32).toNat ≤ (1048575#32 : BitVec 32).toNat ∧ (1048575#32 : BitVec 32).toNat < 2 ^ 20 := by decide

/-- The answers of the fetches of both sample widths. -/
theorem witness_fetches : (ready [.ok tempBytes] 0x00#72).nextAnswer = .ok tempBytes ∧
    (ready [.ok humBytes] 0x00#72).nextAnswer = .ok humBytes := ⟨rfl, rfl⟩

theorem witness_hectopascal : (BitVec.ofInt 64 (2 ^ 53)).toInt.natAbs ≤ 2 ^ 53 ∧
    (BitVec.ofInt 64 (-(2 ^ 53))).toInt.natAbs ≤ 2 ^ 53 := by decide

theorem witness_percent : (102400#32 : BitVec 32).toNat ≤ 102400 := by decide

/-- H1 lies in the no-overflow domain. -/
theorem witness_novf_h : NovfH 30000 128422 exampleCal := by
  unfold NovfH fits; decide +kernel

theorem witness_example_humidity : exampleCal.h1 = 75#8 ∧ exampleCal.h2 = 367#16 ∧ exampleCal.h3 = 0#8 ∧
    exampleCal.h4 = 301#16 ∧ exampleCal.h5 = 50#16 ∧ exampleCal.h6 = 30#8 ∧
    (0#32 : BitVec 32).toNat ≤ (65535#32 : BitVec 32).toNat ∧ (65535#32 : BitVec 32).toNat ≤ 65535 := by decide

/-- Operands for each row of 45_altitude.md R143 (A7, A8, A9, A10 and the underflow and overflow of the ratio). -/
theorem witness_altitude_operands : positiveFinite (Flt.ofBits 0x408FAA0000000000#64) = true ∧
    negativeFinite (Flt.fdiv (Flt.ofBits 0x408F7442A3D70A3D#64) (Flt.ofBits 0xC08FAA0000000000#64)) = true ∧
    Flt.fdiv (Flt.ofBits 0x0000000000000001#64) (Flt.ofBits 0x408FAA0000000000#64) = Flt.zero false ∧
    Flt.fdiv (Flt.ofBits 0x408FAA0000000000#64) (Flt.ofBits 0x0000000000000001#64) = .inf false ∧
    negativeFinite (Flt.ofBits 0xC05093C28F5C28F6#64) = true := by decide +kernel

theorem witness_pow_operands : positiveFinite exponentE = true ∧ (Flt.zero false).lt exponentE = true ∧
    negativeFinite (Flt.ofBits 0xBFF0000000000000#64) = true ∧ fractional exponentE = true ∧
    exponentE ≠ Flt.zero false ∧ exponentE ≠ Flt.zero true := by decide +kernel

theorem witness_positive_magnitude : 0 < (⟨9218868437227405311, by decide⟩ : Fin 9218868437227405312).val := by decide

/-- Rounding at the overflow midpoint and just below it. -/
theorem witness_rounding : 0 < 1 ∧ 1 * (2 ^ 1024 - 2 ^ 970) ≤ 2 ^ 1024 - 2 ^ 970 ∧
    2 ^ 1024 - 2 ^ 970 - 1 < 1 * (2 ^ 1024 - 2 ^ 970) := by decide +kernel

theorem witness_exact_integer : (2 ^ 53 : Int).natAbs ≤ 2 ^ 53 ∧ (-(2 ^ 53) : Int).natAbs ≤ 2 ^ 53 := by decide

theorem witness_patterns : Flt.ofBits 0x3FF0000000000000#64 ≠ .nan ∧ Flt.ofBits 0x7FF0000000000001#64 = .nan := by decide

/-- A step out of the Uninitialized state into the Ready state. -/
theorem witness_becomes_ready :
    let s := { ready ([idBytes, ackBytes, readyBytes, blockA, blockB, ackBytes, ackBytes, ackBytes].map .ok) 0x00#72 with
      init := false }
    s.init = false ∧ ((stateAfter (step s)).map (·.init)) = some true := ⟨rfl, by decide +kernel⟩

/-- Steps out of the Ready state: SETUP (its first read fails), SOFT_RESET, power-on; and an idle step in it. -/
theorem witness_leaves_ready : (ready [.error 9] 0x00#72).init = true ∧
    (stateAfter (step (ready [.error 9] 0x000000000000000000#72))).map (·.init) = some false ∧
    (stateAfter (step (ready [.error 9] 0x010000000000000000#72))).map (·.init) = some false ∧
    (stateAfter (step { ready [] 0x00#72 with events := [.powerOn] })).map (·.init) = some false ∧
    (stateAfter (step { ready [] 0x00#72 with events := [] })).map (·.init) = some true :=
  ⟨rfl, rfl, rfl, rfl, rfl⟩

/-- A measurement command in the Ready state has a next state. -/
theorem witness_ready_measurement : measurement (.readAltitude 0x408FAA0000000000#64) = true ∧
    (ready [.error 9] 0x00#72).init = true ∧
    ∃ t, exec (.readAltitude 0x408FAA0000000000#64) (ready [.error 9] 0x00#72) = .next t := ⟨rfl, rfl, _, rfl⟩

/-- A bus error and its absence, and a SETUP that fails. -/
theorem witness_bus_error : responsesAfter (ready [.error 9] 0x020000000000000000#72) = some [.err (.busError 9)] ∧
    responsesAfter (ready [.error 9] 0x000000000000000000#72) = some [.err (.busError 9)] := by decide +kernel

/-- The invariant's premise is met by the state after reset. -/
theorem witness_invariant_premise : State.reset.params.wellFormed = true ∧ State.reset.history = [] ∧
    State.reset.init = false := ⟨rfl, rfl, rfl⟩

/-- Two states that differ in what is hidden. -/
theorem witness_observably_equal : (ready [] 0x00#72).observablyEqual ((ready [] 0x00#72).setTFine 5#32) :=
  ⟨rfl, rfl, fun _ => rfl, rfl, rfl, rfl, rfl, rfl⟩

end Sys2Proof.Tests
end

section
/-!
SUPPORT. The integer arithmetic of the chains read as integers (00_scope.md R9 to R11): what each operation gives for every
operand, and that it is the mathematical operation where the mathematical result fits the width.
-/
namespace Sys2Proof
open Sys2Proof.Machine (fits)

/-! The shifts and the division, for every operand (R10). -/

theorem asr_eq_sshiftRight {w : Nat} (v : BitVec w) (n : Nat) : asr v n = v.sshiftRight n := by
  rw [asr, BitVec.sshiftRight, Int.shiftRight_eq_div_pow]
  norm_cast

@[simp] theorem toInt_asr {w : Nat} (v : BitVec w) (n : Nat) : (asr v n).toInt = v.toInt / 2 ^ n := by
  rw [asr_eq_sshiftRight, BitVec.toInt_sshiftRight, Int.shiftRight_eq_div_pow]
  norm_cast

theorem toInt_shiftLeft_eq_bmod {w : Nat} (v : BitVec w) (n : Nat) :
    (v <<< n).toInt = (v.toInt * 2 ^ n).bmod (2 ^ w) := by
  rw [BitVec.toInt_shiftLeft, Nat.shiftLeft_eq, BitVec.toInt_eq_toNat_bmod v, Int.bmod_mul_bmod]
  push_cast
  rfl

theorem toNat_asr_of_nonneg {w : Nat} {v : BitVec w} (n : Nat) (h : 0 ≤ v.toInt) : ((asr v n).toNat : Int) = v.toInt / 2 ^ n := by
  have hnonneg : 0 ≤ (asr v n).toInt := by rw [toInt_asr]; exact Int.ediv_nonneg h (by positivity)
  rw [← toInt_asr, BitVec.toInt_eq_toNat_of_lt (BitVec.toInt_pos_iff.mp hnonneg)]

/-- Truncating division by magnitudes and signs, as R10 writes it. -/
theorem tdiv_eq_sign_mul_natAbs_div (a b : Int) :
    Int.tdiv a b = a.sign * b.sign * (a.natAbs / b.natAbs : Nat) := by
  have habs : (Int.tdiv a b).natAbs = a.natAbs / b.natAbs := Int.natAbs_tdiv a b
  rw [← Int.sign_mul_natAbs (Int.tdiv a b), habs, Int.sign_tdiv]
  split
  · next hlt => simp [Nat.div_eq_of_lt hlt]
  · rfl

theorem fits_toInt {w : Nat} (v : BitVec w) : fits w v.toInt := ⟨v.le_toInt, v.toInt_lt⟩

/-- The one quotient of two 64-bit integers that leaves the width is that of -2^63 by -1. -/
theorem fits_tdiv {a b : Int} (ha : fits 64 a) (h : a ≠ -(2 ^ 63) ∨ b ≠ -1) : fits 64 (Int.tdiv a b) := by
  obtain ⟨hlo, hhi⟩ := ha
  by_cases hb : 2 ≤ b.natAbs
  · have habs : (Int.tdiv a b).natAbs = a.natAbs / b.natAbs := Int.natAbs_tdiv a b
    have hhalf : a.natAbs / b.natAbs ≤ a.natAbs / 2 := Nat.div_le_div_left hb two_pos
    constructor <;> omega
  · obtain rfl | rfl | rfl : b = -1 ∨ b = 0 ∨ b = 1 := by omega
    · rw [Int.tdiv_neg, Int.tdiv_one]; constructor <;> omega
    · rw [Int.tdiv_zero]; constructor <;> decide
    · rw [Int.tdiv_one]; exact ⟨hlo, hhi⟩

theorem toInt_sdiv64_of_fits {a b : BitVec 64} (h : fits 64 (Int.tdiv a.toInt b.toInt)) :
    (sdiv64 a b).toInt = Int.tdiv a.toInt b.toInt :=
  BitVec.toInt_ofInt_eq_self (by decide) h.1 h.2

/-! The operations of `BitVec` where the mathematical result fits (R11). -/

section Fits
variable {w : Nat} {x y : BitVec w} {a b : Int}

theorem bmod_eq_self_of_fits (hw : 0 < w) (h : fits w a) : a.bmod (2 ^ w) = a := by
  rw [← BitVec.toInt_ofInt, BitVec.toInt_ofInt_eq_self hw h.1 h.2]

theorem toInt_add_of_fits (hx : x.toInt = a) (hy : y.toInt = b) (h : fits w (a + b)) (hw : 0 < w := by decide) :
    (x + y).toInt = a + b := by
  rw [BitVec.toInt_add, hx, hy, bmod_eq_self_of_fits hw h]

theorem toInt_sub_of_fits (hx : x.toInt = a) (hy : y.toInt = b) (h : fits w (a - b)) (hw : 0 < w := by decide) :
    (x - y).toInt = a - b := by
  rw [BitVec.toInt_sub, hx, hy, bmod_eq_self_of_fits hw h]

theorem toInt_mul_of_fits (hx : x.toInt = a) (hy : y.toInt = b) (h : fits w (a * b)) (hw : 0 < w := by decide) :
    (x * y).toInt = a * b := by
  rw [BitVec.toInt_mul, hx, hy, bmod_eq_self_of_fits hw h]

theorem toInt_shiftLeft_of_fits {n : Nat} (hx : x.toInt = a) (h : fits w (a * 2 ^ n)) (hw : 0 < w := by decide) :
    (x <<< n).toInt = a * 2 ^ n := by
  rw [toInt_shiftLeft_eq_bmod, hx, bmod_eq_self_of_fits hw h]

theorem toInt_asr_of_eq {n : Nat} (hx : x.toInt = a) : (asr x n).toInt = a / 2 ^ n := by rw [toInt_asr, hx]

end Fits

/-- A register read as unsigned in a wider signed register. -/
theorem toInt_setWidth_of_lt {w v : Nat} (x : BitVec w) (h : w < v) : (x.setWidth v).toInt = (x.toNat : Int) := by
  have hpow : 2 * 2 ^ w ≤ 2 ^ v := by rw [← pow_succ']; exact Nat.pow_le_pow_right two_pos h
  have hx := x.isLt
  have hnat : (x.setWidth v).toNat = x.toNat := BitVec.toNat_setWidth_of_le h.le
  rw [BitVec.toInt_eq_toNat_of_lt (by omega), hnat]

end Sys2Proof
end

section
/-!
Proofs of the statements about integer arithmetic.
-/
namespace Sys2Proof.Machine

/-- Settles O22: the shifts are floor, floor and wrapped product; the quotient wraps only at -2^63 by -1. -/
theorem shiftAndDivisionLaws : Obligations.ShiftAndDivisionLaws := by
  refine ⟨fun w n v _ => ?_, fun w n v => ?_, fun w n v => ⟨toInt_shiftLeft_eq_bmod v n, ?_⟩, fun a b _ h => ?_, ?_⟩
  · rw [toInt_asr]
    exact ⟨Int.ediv_mul_le _ (by positivity), Int.lt_ediv_add_one_mul_self _ (by positivity)⟩
  · rw [BitVec.toNat_ushiftRight, Nat.shiftRight_eq_div_pow]
  · rw [BitVec.toNat_shiftLeft, Nat.shiftLeft_eq]
  · rw [toInt_sdiv64_of_fits (fits_tdiv (fits_toInt a) h), tdiv_eq_sign_mul_natAbs_div]
  · decide

end Sys2Proof.Machine
end

section
/-!
SUPPORT. The pressure chain read as integers, one lemma per rule of 43_pressure.md R111 to R115, each under the condition that
the results it hands to `wrap_64` fit.
-/
namespace Sys2Proof.Machine

theorem toInt_pressPv {t : BitVec 32} (h : fits 64 (t.toInt - 128000)) : (pressPv t).toInt = t.toInt - 128000 :=
  toInt_sub_of_fits (BitVec.toInt_signExtend_of_le (by decide)) (by decide) h

theorem toInt_pressAcc2 {v : BitVec 64} {pv : Int} {c : Calibration} (hpv : v.toInt = pv)
    (hsq : fits 64 (pv * pv)) (h6 : fits 64 (pv * pv * c.p6.toInt)) (h5 : fits 64 (pv * c.p5.toInt))
    (h5s : fits 64 (pv * c.p5.toInt * 2 ^ 17)) (h65 : fits 64 (pv * pv * c.p6.toInt + pv * c.p5.toInt * 2 ^ 17))
    (h4 : fits 64 (c.p4.toInt * 2 ^ 35)) (hacc : fits 64 (exactAcc2 pv c)) :
    (pressAcc2 v c).toInt = exactAcc2 pv c :=
  toInt_add_of_fits
    (toInt_add_of_fits
      (toInt_mul_of_fits (toInt_mul_of_fits hpv hpv hsq) (BitVec.toInt_signExtend_of_le (by decide)) h6)
      (toInt_shiftLeft_of_fits (toInt_mul_of_fits hpv (BitVec.toInt_signExtend_of_le (by decide)) h5) h5s) h65)
    (toInt_shiftLeft_of_fits (BitVec.toInt_signExtend_of_le (by decide)) h4) hacc

theorem toInt_pressAcc1Sum {v : BitVec 64} {pv : Int} {c : Calibration} (hpv : v.toInt = pv)
    (hsq : fits 64 (pv * pv)) (h3 : fits 64 (pv * pv * c.p3.toInt)) (h2 : fits 64 (pv * c.p2.toInt))
    (h2s : fits 64 (pv * c.p2.toInt * 2 ^ 12)) (hsum : fits 64 (exactAcc1Sum pv c)) :
    (pressAcc1Sum v c).toInt = exactAcc1Sum pv c :=
  toInt_add_of_fits
    (toInt_asr_of_eq (toInt_mul_of_fits (toInt_mul_of_fits hpv hpv hsq) (BitVec.toInt_signExtend_of_le (by decide)) h3))
    (toInt_shiftLeft_of_fits (toInt_mul_of_fits hpv (BitVec.toInt_signExtend_of_le (by decide)) h2) h2s) hsum

theorem toInt_pressAcc1 {v : BitVec 64} {pv : Int} {c : Calibration}
    (hsum : (pressAcc1Sum v c).toInt = exactAcc1Sum pv c) (hadd : fits 64 (2 ^ 47 + exactAcc1Sum pv c))
    (hmul : fits 64 ((2 ^ 47 + exactAcc1Sum pv c) * c.p1.toNat)) : (pressAcc1 v c).toInt = exactAcc1 pv c :=
  toInt_asr_of_eq (toInt_mul_of_fits (toInt_add_of_fits (by decide) hsum hadd) (toInt_setWidth_of_lt c.p1 (by decide)) hmul)

theorem toInt_pressNumerator {adc : BitVec 32} {acc2 : BitVec 64} {pv : Int} {c : Calibration}
    (hacc : acc2.toInt = exactAcc2 pv c) (hsub : fits 64 (1048576 - (adc.toNat : Int)))
    (hshift : fits 64 ((1048576 - (adc.toNat : Int)) * 2 ^ 31))
    (hdiff : fits 64 ((1048576 - (adc.toNat : Int)) * 2 ^ 31 - exactAcc2 pv c))
    (hnum : fits 64 (exactNumerator adc.toNat pv c)) : (pressNumerator adc acc2).toInt = exactNumerator adc.toNat pv c :=
  toInt_mul_of_fits
    (toInt_sub_of_fits
      (toInt_shiftLeft_of_fits (toInt_sub_of_fits (by decide) (toInt_setWidth_of_lt adc (by decide)) hsub) hshift) hacc hdiff)
    (by decide) hnum

theorem toInt_pressX1 {q : BitVec 64} {pq : Int} {c : Calibration} (hpq : q.toInt = pq)
    (h9 : fits 64 (c.p9.toInt * (pq / 2 ^ 13))) (h99 : fits 64 (c.p9.toInt * (pq / 2 ^ 13) * (pq / 2 ^ 13))) :
    (pressX1 q c).toInt = exactX1 pq c :=
  toInt_asr_of_eq (toInt_mul_of_fits (toInt_mul_of_fits (BitVec.toInt_signExtend_of_le (by decide)) (toInt_asr_of_eq hpq) h9)
    (toInt_asr_of_eq hpq) h99)

theorem toInt_pressX2 {q : BitVec 64} {pq : Int} {c : Calibration} (hpq : q.toInt = pq) (h8 : fits 64 (c.p8.toInt * pq)) :
    (pressX2 q c).toInt = exactX2 pq c :=
  toInt_asr_of_eq (toInt_mul_of_fits (BitVec.toInt_signExtend_of_le (by decide)) hpq h8)

theorem pressChain_pFix_of_zero {adc t : BitVec 32} {c : Calibration} (old : PressRegs) (h : pressAcc1 (pressPv t) c = 0#64) :
    (pressChain old adc t c).pFix = 0#64 := by
  simp [pressChain, zeroDenominator, h]

theorem pressChain_pFix_of_ne_zero {adc t : BitVec 32} {c : Calibration} (old : PressRegs)
    (h : pressAcc1 (pressPv t) c ≠ 0#64) :
    let pq := sdiv64 (pressNumerator adc (pressAcc2 (pressPv t) c)) (pressAcc1 (pressPv t) c)
    (pressChain old adc t c).pFix = asr (pq + pressX1 pq c + pressX2 pq c) 8 + (c.p7.signExtend 64 <<< 4) := by
  simp [pressChain, zeroDenominator, h]

theorem exactPress_of_zero {adc t : Int} {c : Calibration} (h : exactAcc1 (t - 128000) c = 0) : exactPress adc t c = 0 := by
  simp [exactPress, h]

theorem exactPress_of_ne_zero {adc t : Int} {c : Calibration} (h : exactAcc1 (t - 128000) c ≠ 0) :
    let pq := exactQuotient adc (t - 128000) c
    exactPress adc t c = (pq + exactX1 pq c + exactX2 pq c) / 2 ^ 8 + c.p7.toInt * 2 ^ 4 := by
  simp [exactPress, h]

/-- Settles O30: both denominators are 0 together; past the guard each register of the chain is its unbounded value. -/
theorem pressureChainExactInsideNovf : Obligations.PressureChainExactInsideNovf := by
  intro old adc t c hnovf
  simp only [NovfP, pressResults, List.forall_mem_append, List.forall_mem_cons] at hnovf
  obtain ⟨⟨hpv, hsq, h6, h5, h5s, h65, h4, hacc2, h3, h2, h2s, hsum, hadd, hmul, -⟩, hrest⟩ := hnovf
  have ePv := toInt_pressPv hpv
  have eAcc2 := toInt_pressAcc2 ePv hsq h6 h5 h5s h65 h4 hacc2
  have eAcc1 := toInt_pressAcc1 (toInt_pressAcc1Sum ePv hsq h3 h2 h2s hsum) hadd hmul
  by_cases hzero : exactAcc1 (t.toInt - 128000) c = 0
  · have hguard : pressAcc1 (pressPv t) c = 0#64 := BitVec.eq_of_toInt_eq (by rw [eAcc1, hzero]; rfl)
    rw [pressChain_pFix_of_zero old hguard, exactPress_of_zero hzero]
    rfl
  · have hguard : pressAcc1 (pressPv t) c ≠ 0#64 := fun h => hzero (by rw [← eAcc1, h]; rfl)
    rw [if_neg hzero] at hrest
    simp only [List.forall_mem_cons] at hrest
    obtain ⟨hsub, hshift, hdiff, hnum, hpq, h9, h99, h8, hx1, hx2, h7, hfix, -⟩ := hrest
    have eNum := toInt_pressNumerator eAcc2 hsub hshift hdiff hnum
    have ePq := toInt_sdiv64_of_fits (a := pressNumerator adc (pressAcc2 (pressPv t) c))
      (b := pressAcc1 (pressPv t) c) (by rw [eNum, eAcc1]; exact hpq)
    rw [eNum, eAcc1] at ePq
    rw [pressChain_pFix_of_ne_zero old hguard]
    rw [exactPress_of_ne_zero hzero] at hfix ⊢
    exact toInt_add_of_fits
      (toInt_asr_of_eq (toInt_add_of_fits (toInt_add_of_fits ePq (toInt_pressX1 ePq h9 h99) hx1) (toInt_pressX2 ePq h8) hx2))
      (toInt_shiftLeft_of_fits (BitVec.toInt_signExtend_of_le (by decide)) h7) hfix

end Sys2Proof.Machine
end

section
/-!
SUPPORT. The humidity chain read as integers, one lemma per rule of 44_humidity.md R126, each under the condition that the
results it hands to `wrap_32` fit, and the clamp of R127.
-/
namespace Sys2Proof.Machine

/-- A sample whose shift by 14 fits is far below the sign bit. -/
theorem toInt_sample_of_fits {adc : BitVec 32} (h : fits 32 ((adc.toNat : Int) * 2 ^ 14)) : adc.toInt = adc.toNat := by
  obtain ⟨-, hhi⟩ := h
  exact BitVec.toInt_eq_toNat_of_lt (by omega)

theorem toInt_humA {adc v : BitVec 32} {hv : Int} {c : Calibration} (eHv : v.toInt = hv)
    (hadc : fits 32 ((adc.toNat : Int) * 2 ^ 14)) (h4 : fits 32 (c.h4.toInt * 2 ^ 20))
    (hdiff : fits 32 ((adc.toNat : Int) * 2 ^ 14 - c.h4.toInt * 2 ^ 20)) (h5 : fits 32 (c.h5.toInt * hv))
    (hdiff5 : fits 32 ((adc.toNat : Int) * 2 ^ 14 - c.h4.toInt * 2 ^ 20 - c.h5.toInt * hv))
    (hround : fits 32 ((adc.toNat : Int) * 2 ^ 14 - c.h4.toInt * 2 ^ 20 - c.h5.toInt * hv + 16384)) :
    (humA adc v c).toInt = exactHa adc.toNat hv c :=
  toInt_asr_of_eq (toInt_add_of_fits
    (toInt_sub_of_fits
      (toInt_sub_of_fits (toInt_shiftLeft_of_fits (toInt_sample_of_fits hadc) hadc)
        (toInt_shiftLeft_of_fits (BitVec.toInt_signExtend_of_le (by decide)) h4) hdiff)
      (toInt_mul_of_fits (BitVec.toInt_signExtend_of_le (by decide)) eHv h5) hdiff5)
    (by decide) hround)

theorem toInt_humChain_hb (adc : BitVec 32) {t : BitVec 32} {hv : Int} {c : Calibration}
    (eHv : (t - 76800#32).toInt = hv) (h6 : fits 32 (hv * c.h6.toInt))
    (h3 : fits 32 (hv * c.h3.toNat)) (hHb2 : fits 32 (exactHb2 hv c)) (hHb12 : fits 32 (exactHb1 hv c * exactHb2 hv c))
    (hHb3 : fits 32 (exactHb3 hv c)) (h2 : fits 32 (exactHb3 hv c * c.h2.toInt))
    (h2r : fits 32 (exactHb3 hv c * c.h2.toInt + 8192)) : (humChain adc t c).hb.toInt = exactHb hv c := by
  have eHb1 : (asr ((t - 76800#32) * c.h6.signExtend 32) 10).toInt = exactHb1 hv c :=
    toInt_asr_of_eq (toInt_mul_of_fits eHv (BitVec.toInt_signExtend_of_le (by decide)) h6)
  have eHb2 : (asr ((t - 76800#32) * c.h3.setWidth 32) 11 + 32768#32).toInt = exactHb2 hv c :=
    toInt_add_of_fits (toInt_asr_of_eq (toInt_mul_of_fits eHv (toInt_setWidth_of_lt c.h3 (by decide)) h3)) (by decide) hHb2
  exact toInt_asr_of_eq (toInt_add_of_fits
    (toInt_mul_of_fits
      (toInt_add_of_fits (toInt_asr_of_eq (toInt_mul_of_fits eHb1 eHb2 hHb12)) (by decide) hHb3)
      (BitVec.toInt_signExtend_of_le (by decide)) h2)
    (by decide) h2r)

theorem toInt_humChain_hy {adc t : BitVec 32} {hv : Int} {c : Calibration}
    (eHx : (humChain adc t c).hx.toInt = exactHx adc.toNat hv c)
    (hsq : fits 32 ((exactHx adc.toNat hv c / 2 ^ 15) * (exactHx adc.toNat hv c / 2 ^ 15)))
    (h1 : fits 32 ((exactHx adc.toNat hv c / 2 ^ 15) * (exactHx adc.toNat hv c / 2 ^ 15) / 2 ^ 7 * c.h1.toNat)) :
    (humChain adc t c).hy.toInt = exactHy adc.toNat hv c :=
  toInt_asr_of_eq (toInt_mul_of_fits (toInt_asr_of_eq (toInt_mul_of_fits (toInt_asr_of_eq eHx) (toInt_asr_of_eq eHx) hsq))
    (toInt_setWidth_of_lt c.h1 (by decide)) h1)

theorem toInt_clampHumidity (hz : BitVec 32) :
    (clampHumidity hz).toInt = if hz.toInt < 0 then 0 else if 419430400 < hz.toInt then 419430400 else hz.toInt := by
  unfold clampHumidity
  split
  · rfl
  · split <;> rfl

theorem clampHumidity_nonneg (hz : BitVec 32) : 0 ≤ (clampHumidity hz).toInt := by
  rw [toInt_clampHumidity]
  split
  · rfl
  · split
    · decide
    · omega

theorem humChain_hFix (adc t : BitVec 32) (c : Calibration) :
    (humChain adc t c).hFix = asr (clampHumidity (humChain adc t c).hz) 12 := rfl

/-- Settles O38: each register of the chain is its unbounded value, and so is what the clamp makes of the last. -/
theorem humidityChainExactInsideNovf : Obligations.HumidityChainExactInsideNovf := by
  intro adc t c hnovf
  simp only [NovfH, humResults, List.forall_mem_cons] at hnovf
  obtain ⟨hHv, hadc, h4, hdiff, h5, hdiff5, hround, h6, h3, hHb2, hHb12, hHb3, h2, h2r, hHx, hsq, h1, hHz, -⟩ := hnovf
  have eHv := toInt_sub_of_fits (x := t) (y := 76800#32) rfl (by decide) hHv
  have eHx : (humChain adc t c).hx.toInt = exactHx adc.toNat (t.toInt - 76800) c :=
    toInt_mul_of_fits (toInt_humA eHv hadc h4 hdiff h5 hdiff5 hround)
      (toInt_humChain_hb adc eHv h6 h3 hHb2 hHb12 hHb3 h2 h2r) hHx
  have eHz : (humChain adc t c).hz.toInt = exactHx adc.toNat (t.toInt - 76800) c - exactHy adc.toNat (t.toInt - 76800) c :=
    toInt_sub_of_fits eHx (toInt_humChain_hy eHx hsq h1) hHz
  rw [humChain_hFix, toNat_asr_of_nonneg 12 (clampHumidity_nonneg _), toInt_clampHumidity, eHz, exactHum]

end Sys2Proof.Machine
end

section
/-!
SUPPORT. The magnitudes of FLT as integers of units (00_scope.md R13): the units of a magnitude from its exponent and
significand, the order of magnitudes, and what `roundMag` gives.
-/
namespace Sys2Proof.Flt

/-! Magnitudes and units. -/

theorem binade_mul_add_significand (m : Nat) : binade m * 2 ^ 52 + significand m = m := by
  unfold binade significand
  split <;> omega

theorem significand_lt (m : Nat) : significand m < 2 ^ 53 := by
  unfold significand
  split <;> omega

theorem binade_eq_zero_or_le_significand (m : Nat) : binade m = 0 ∨ 2 ^ 52 ≤ significand m := by
  unfold binade significand
  split <;> omega

/-- The units of the magnitude with exponent `k` and significand `q`, also where `q` carries into the exponent. -/
theorem units_mul_add {k q : Nat} (hq : q ≤ 2 ^ 53) (hnormal : k = 0 ∨ 2 ^ 52 ≤ q) : units (k * 2 ^ 52 + q) = q * 2 ^ k := by
  by_cases hsmall : q < 2 ^ 52
  · obtain rfl : k = 0 := by omega
    have hs : significand q = q := if_pos hsmall
    have hb : binade q = 0 := by unfold binade; omega
    rw [zero_mul, zero_add, units, hs, hb]
  · have hs : significand (k * 2 ^ 52 + q) = 2 ^ 52 + (k * 2 ^ 52 + q) % 2 ^ 52 := if_neg (by omega)
    rcases hq.lt_or_eq with hlt | rfl
    · have hb : binade (k * 2 ^ 52 + q) = k := by unfold binade; omega
      have hmod : 2 ^ 52 + (k * 2 ^ 52 + q) % 2 ^ 52 = q := by omega
      rw [units, hs, hb, hmod]
    · have hb : binade (k * 2 ^ 52 + 2 ^ 53) = k + 1 := by unfold binade; omega
      have hmod : 2 ^ 52 + (k * 2 ^ 52 + 2 ^ 53) % 2 ^ 52 = 2 ^ 52 := by omega
      rw [units, hs, hb, hmod, pow_succ 2 52, pow_succ 2 k]
      ring

@[simp] theorem units_zero : units 0 = 0 := by decide

/-- The next magnitude is one unit in the last place away. -/
theorem units_succ (m : Nat) : units (m + 1) = units m + 2 ^ binade m := by
  have hnext : units (binade m * 2 ^ 52 + (significand m + 1)) = (significand m + 1) * 2 ^ binade m :=
    units_mul_add (significand_lt m) ((binade_eq_zero_or_le_significand m).imp_right (by omega))
  rw [← add_assoc, binade_mul_add_significand] at hnext
  rw [hnext, units]
  ring

theorem units_strictMono : StrictMono units :=
  strictMono_nat_of_lt_succ fun m => by rw [units_succ]; exact Nat.lt_add_of_pos_right (by positivity)

/-- A number of at most 53 bits, shifted by any amount, is the units of a magnitude. -/
theorem exists_units_eq {q : Nat} (hq : q ≤ 2 ^ 53) (k : Nat) : ∃ m, units m = q * 2 ^ k := by
  induction k generalizing q with
  | zero => exact ⟨0 * 2 ^ 52 + q, units_mul_add hq (.inl rfl)⟩
  | succ k ih =>
    by_cases hnormal : 2 ^ 52 ≤ q
    · exact ⟨_, units_mul_add hq (.inr hnormal)⟩
    · obtain ⟨m, hm⟩ := ih (q := 2 * q) (by omega)
      exact ⟨m, by rw [hm, pow_succ]; ring⟩

theorem scale_pos : 0 < scale := by unfold scale; positivity

/-! Rounding. -/

theorem roundHalfEven_cases (n d : Nat) :
    (roundHalfEven n d = n / d ∧ (2 * (n % d) < d ∨ 2 * (n % d) = d ∧ n / d % 2 = 0)) ∨
    (roundHalfEven n d = n / d + 1 ∧ (d < 2 * (n % d) ∨ 2 * (n % d) = d ∧ n / d % 2 = 1)) := by
  simp only [roundHalfEven]
  split
  · next hup => exact .inr ⟨rfl, hup⟩
  · next hdown => exact .inl ⟨rfl, by omega⟩

/-- The significand of the magnitude just below the quotient `v`, whose exponent is `log2 v - 52`. -/
theorem log2_quotient (v : Nat) : v / 2 ^ (Nat.log2 v - 52) < 2 ^ 53 ∧
    (Nat.log2 v - 52 = 0 ∨ 2 ^ 52 ≤ v / 2 ^ (Nat.log2 v - 52)) := by
  have hlt : v < 2 ^ (Nat.log2 v + 1) := Nat.lt_log2_self
  by_cases hsmall : Nat.log2 v ≤ 52
  · have hk : Nat.log2 v - 52 = 0 := by omega
    have hpow : 2 ^ (Nat.log2 v + 1) ≤ 2 ^ 53 := Nat.pow_le_pow_right two_pos (by omega)
    refine ⟨?_, .inl hk⟩
    rw [hk, pow_zero, Nat.div_one]
    omega
  · have hv : v ≠ 0 := by rintro rfl; exact hsmall (by decide)
    have hle : 2 ^ Nat.log2 v ≤ v := Nat.log2_self_le hv
    constructor
    · rw [Nat.div_lt_iff_lt_mul (by positivity), ← pow_add]
      rwa [show 53 + (Nat.log2 v - 52) = Nat.log2 v + 1 by omega]
    · right
      rw [Nat.le_div_iff_mul_le (by positivity), ← pow_add]
      rwa [show 52 + (Nat.log2 v - 52) = Nat.log2 v by omega]

/-- `r` is the magnitude nearest to `num / den`, ties to even, seen from the magnitude `a` just below the quotient. -/
def RoundsFrom (num den a r : Nat) : Prop :=
  units a * den ≤ num * scale ∧ num * scale < units (a + 1) * den ∧
  ((r = a ∧ (2 * (num * scale) < (units a + units (a + 1)) * den ∨
      2 * (num * scale) = (units a + units (a + 1)) * den ∧ a % 2 = 0)) ∨
    (r = a + 1 ∧ ((units a + units (a + 1)) * den < 2 * (num * scale) ∨
      2 * (num * scale) = (units a + units (a + 1)) * den ∧ a % 2 = 1)))

theorem roundMag_roundsFrom (num : Nat) {den : Nat} (hden : 0 < den) : ∃ a, RoundsFrom num den a (roundMag num den) := by
  set n := num * scale with hn
  set k := Nat.log2 (n / den) - 52 with hk
  set d := den * 2 ^ k with hd
  obtain ⟨hq, hnormal⟩ := log2_quotient (n / den)
  rw [← hk, Nat.div_div_eq_div_mul, ← hd] at hq hnormal
  have hlow : units (k * 2 ^ 52 + n / d) * den = n / d * d := by
    rw [units_mul_add hq.le hnormal, mul_assoc, mul_comm (2 ^ k), ← hd]
  have hhigh : units (k * 2 ^ 52 + n / d + 1) * den = n / d * d + d := by
    rw [add_assoc, units_mul_add hq (hnormal.imp_right (by omega)), mul_assoc, mul_comm (2 ^ k), ← hd, Nat.succ_mul]
  have hdiv : n / d * d + n % d = n := Nat.div_add_mod' n d
  have hmod : n % d < d := Nat.mod_lt n (by positivity)
  have hround : roundMag num den = k * 2 ^ 52 + roundHalfEven n d := rfl
  refine ⟨k * 2 ^ 52 + n / d, by omega, by omega, ?_⟩
  rw [add_mul, hlow, hhigh, hround]
  rcases roundHalfEven_cases n d with ⟨hr, hcase⟩ | ⟨hr, hcase⟩
  · left; omega
  · right; omega

/-- The magnitude below the quotient rounds to no other than itself or the next. -/
theorem RoundsFrom.eq_or_eq_succ {num den a r : Nat} (h : RoundsFrom num den a r) : r = a ∨ r = a + 1 := by
  obtain ⟨-, -, hr⟩ := h
  exact hr.imp And.left And.left

/-- Twice the midpoint between the greatest finite magnitude and that of infinity. -/
theorem units_overflow_midpoint :
    units 9218868437227405311 + units 9218868437227405312 = 2 * ((2 ^ 1024 - 2 ^ 970) * scale) := by decide +kernel

/-- Rounding gives a finite magnitude exactly below the midpoint. -/
theorem roundMag_lt_iff (num : Nat) {den : Nat} (hden : 0 < den) :
    roundMag num den < 9218868437227405312 ↔ num < den * (2 ^ 1024 - 2 ^ 970) := by
  have hmid : (units 9218868437227405311 + units 9218868437227405312) * den =
      2 * (den * (2 ^ 1024 - 2 ^ 970) * scale) := by
    rw [units_overflow_midpoint]; ring
  have hscale : num < den * (2 ^ 1024 - 2 ^ 970) ↔ num * scale < den * (2 ^ 1024 - 2 ^ 970) * scale :=
    (Nat.mul_lt_mul_right scale_pos).symm
  rw [hscale]
  generalize den * (2 ^ 1024 - 2 ^ 970) * scale = mid at hmid ⊢
  have hstep : units 9218868437227405311 * den < units 9218868437227405312 * den :=
    Nat.mul_lt_mul_of_pos_right (units_strictMono (by decide)) hden
  rw [add_mul] at hmid
  obtain ⟨a, hround⟩ := roundMag_roundsFrom num hden
  obtain ⟨hlow, hhigh, hcase⟩ := id hround
  have hr := hround.eq_or_eq_succ
  rcases lt_trichotomy a 9218868437227405311 with ha | rfl | ha
  · have hle : units (a + 1) * den ≤ units 9218868437227405311 * den :=
      Nat.mul_le_mul_right den (units_strictMono.monotone ha)
    constructor <;> omega
  · rw [add_mul] at hcase
    simp only [Nat.reduceAdd] at hhigh hcase
    constructor <;> omega
  · have hle : units 9218868437227405312 * den ≤ units a * den :=
      Nat.mul_le_mul_right den (units_strictMono.monotone ha)
    constructor <;> omega

/-- The magnitude `r` that `num / den` rounds to is as near as any `y`, and even if another is as near. -/
theorem RoundsFrom.nearest {num den a r : Nat} (h : RoundsFrom num den a r) (hden : 0 < den) (y : Nat) :
    |((num * scale : Nat) : Int) - (units r * den : Nat)| ≤ |((num * scale : Nat) : Int) - (units y * den : Nat)| ∧
    (y ≠ r → |((num * scale : Nat) : Int) - (units r * den : Nat)| =
      |((num * scale : Nat) : Int) - (units y * den : Nat)| → r % 2 = 0) := by
  obtain ⟨hlow, hhigh, hcase⟩ := h
  have hbelow : y < a → units y * den < units a * den := fun hy => Nat.mul_lt_mul_of_pos_right (units_strictMono hy) hden
  have habove : a + 1 < y → units (a + 1) * den < units y * den :=
    fun hy => Nat.mul_lt_mul_of_pos_right (units_strictMono hy) hden
  rw [add_mul] at hcase
  simp only [Int.abs_eq_natAbs]
  obtain hy | rfl | rfl | hy : y < a ∨ y = a ∨ y = a + 1 ∨ a + 1 < y := by omega
  all_goals rcases hcase with ⟨rfl, hcase⟩ | ⟨rfl, hcase⟩ <;> omega

/-- Where a magnitude has exactly the units of the quotient, the quotient rounds to it. -/
theorem roundMag_eq_of_units {num den m : Nat} (hden : 0 < den) (h : units m * den = num * scale) : roundMag num den = m := by
  obtain ⟨a, hlow, hhigh, hcase⟩ := roundMag_roundsFrom num hden
  rw [← h] at hlow hhigh hcase
  have hle : a ≤ m := units_strictMono.le_iff_le.mp (Nat.le_of_mul_le_mul_right hlow hden)
  have hlt : m < a + 1 := units_strictMono.lt_iff_lt.mp (Nat.lt_of_mul_lt_mul_right hhigh)
  obtain rfl : m = a := by omega
  rw [add_mul] at hcase
  omega

theorem ofMag_of_lt {neg : Bool} {m : Nat} (h : m < 9218868437227405312) : ofMag neg m = .fin neg ⟨m, h⟩ := dif_pos h

theorem ofMag_of_le {neg : Bool} {m : Nat} (h : 9218868437227405312 ≤ m) : ofMag neg m = .inf neg := dif_neg (by omega)

/-- Every integer of at most 53 bits is a finite magnitude. -/
theorem exists_mag_of_nat {n : Nat} (h : n ≤ 2 ^ 53) : ∃ m : Fin 9218868437227405312, units m.val = n * scale := by
  obtain ⟨m, hm⟩ := exists_units_eq h 1074
  have htop : 2 ^ 53 * 2 ^ 1074 < units 9218868437227405312 := by decide +kernel
  have hlt : units m < units 9218868437227405312 := by
    rw [hm]; exact (Nat.mul_le_mul_right _ h).trans_lt htop
  exact ⟨⟨m, units_strictMono.lt_iff_lt.mp hlt⟩, hm⟩

end Sys2Proof.Flt
end

section
/-!
Proofs of the statements about FLT arithmetic.
-/
namespace Sys2Proof.Machine

/-- Settles O45: overflow by `roundMag_lt_iff`, nearness by the magnitudes on either side of the quotient. -/
theorem roundingIsNearestTiesToEven : Obligations.RoundingIsNearestTiesToEven := by
  intro neg num den hden
  constructor
  · intro hover
    exact Flt.ofMag_of_le (not_lt.mp fun h => absurd ((Flt.roundMag_lt_iff num hden).mp h) (not_lt.mpr hover))
  · intro hbelow
    have hlt := (Flt.roundMag_lt_iff num hden).mpr hbelow
    obtain ⟨a, hround⟩ := Flt.roundMag_roundsFrom num hden
    refine ⟨⟨_, hlt⟩, Flt.ofMag_of_lt hlt, fun y => ?_⟩
    obtain ⟨hle, heven⟩ := hround.nearest hden y.val
    exact ⟨hle, fun hne => heven fun h => hne (Fin.ext h)⟩

/-- Settles O46: an integer of 53 bits is a magnitude, and rounding keeps it. -/
theorem integersConvertExactly : Obligations.IntegersConvertExactly := by
  intro v hv
  obtain ⟨m, hm⟩ := Flt.exists_mag_of_nat hv
  refine ⟨m, ?_, hm⟩
  rw [Flt.ofInt, Flt.round, Flt.roundMag_eq_of_units one_pos (m := m.val) (by rw [hm, mul_one]), Flt.ofMag_of_lt m.isLt]

/-- Settles O48, by running the model. -/
theorem constantPatterns : Obligations.ConstantPatterns := by
  refine ⟨?_, ?_, ?_, ?_⟩ <;> decide +kernel

end Sys2Proof.Machine
end

section
/-!
SUPPORT. The power function case by case (00_scope.md R14), and the real power that P6 speaks of.
-/
namespace Sys2Proof.Machine

/-! The constants of P1 to P6 as magnitudes. -/

theorem c1_eq : Flt.c1 = .fin false ⟨0x3FF0000000000000, by decide⟩ := by decide +kernel

theorem units_of_one : Flt.units 0x3FF0000000000000 = Flt.scale := by decide +kernel

/-- The magnitude of `E` (00_scope.md R13). -/
def magnitudeE : Fin 9218868437227405312 := ⟨0x3FC85B95CCD9456C, by decide⟩

theorem exponentE_eq : exponentE = .fin false magnitudeE := by decide +kernel

theorem units_magnitudeE_lt : Flt.units magnitudeE.val < Flt.scale := by decide +kernel

/-! P2 to P5. -/

theorem c1_ne_zero (neg : Bool) : Flt.c1 ≠ Flt.zero neg := by
  rw [c1_eq, Flt.zero, ne_eq, Flt.fin.injEq, Fin.mk.injEq]
  exact fun h => absurd h.2 (by decide)

theorem pow_one_base (y : Flt) : pow Flt.c1 y = Flt.c1 := by rw [pow, if_pos rfl]

theorem pow_zero_base {y : Flt} (hy : positiveFinite y = true) : pow (Flt.zero false) y = Flt.zero false := by
  rw [pow, if_neg (c1_ne_zero false).symm, if_pos ⟨rfl, hy⟩]

theorem pow_inf_base {y : Flt} (hy : (Flt.zero false).lt y = true) : pow (.inf false) y = .inf false := by
  rw [pow, if_neg (by rw [c1_eq]; nofun), if_neg (fun h => nomatch h.1), if_pos ⟨rfl, hy⟩]

theorem pow_negative_base {x y : Flt} (hx : negativeFinite x = true) (hy : fractional y = true) : pow x y = .nan := by
  match x, hx with
  | .fin true m, hx =>
    rw [pow, if_neg (by rw [c1_eq]; nofun), if_neg (fun h => nomatch h.1), if_neg (fun h => nomatch h.1), if_pos ⟨hx, hy⟩]

theorem pow_nan_base {y : Flt} (hpos : y ≠ Flt.zero false) (hneg : y ≠ Flt.zero true) : pow .nan y = .nan := by
  rw [pow, if_neg (by rw [c1_eq]; nofun), if_neg (fun h => nomatch h.1), if_neg (fun h => nomatch h.1),
    if_neg (fun h => nomatch h.1), if_pos ⟨rfl, hpos, hneg⟩]

/-- Settles O43, a case of P2 to P5 each. -/
theorem powSpecialCases : Obligations.PowSpecialCases :=
  ⟨pow_one_base, fun _ => pow_zero_base, fun _ => pow_inf_base, fun _ _ => pow_negative_base, fun _ => pow_nan_base⟩

/-! P6. -/

/-- The real number of u units. -/
noncomputable def realUnits (u : Nat) : ℝ := (u : ℝ) / (Flt.scale : ℝ)

theorem unitsValue_cast (u : Nat) : ((unitsValue u : ℚ) : ℝ) = realUnits u := by
  rw [unitsValue, Rat.cast_div, Rat.cast_natCast, Rat.cast_natCast, realUnits]

theorem realUnits_nonneg (u : Nat) : 0 ≤ realUnits u := by unfold realUnits; positivity

theorem realUnits_add (u v : Nat) : realUnits (u + v) = realUnits u + realUnits v := by
  rw [realUnits, realUnits, realUnits, Nat.cast_add, add_div]

theorem realUnits_strictMono : StrictMono realUnits := fun u v huv => by
  have hscale : (0 : ℝ) < Flt.scale := by exact_mod_cast Flt.scale_pos
  rw [realUnits, realUnits, div_lt_div_iff_of_pos_right hscale]
  exact_mod_cast huv

theorem realUnits_scale : realUnits Flt.scale = 1 := div_self (by exact_mod_cast Flt.scale_pos.ne')

/-- The real power of two magnitudes. -/
noncomputable def realPower (x y : Nat) : ℝ := realUnits (Flt.units x) ^ realUnits (Flt.units y)

theorem realPower_nonneg (x y : Nat) : 0 ≤ realPower x y := Real.rpow_nonneg (realUnits_nonneg _) _

theorem realPower_pow_scale (x y : Nat) : realPower x y ^ Flt.scale = realUnits (Flt.units x) ^ Flt.units y := by
  have hscale : (Flt.scale : ℝ) ≠ 0 := by exact_mod_cast Flt.scale_pos.ne'
  rw [realPower, ← Real.rpow_natCast, ← Real.rpow_mul (realUnits_nonneg _), realUnits, realUnits, div_mul_cancel₀ _ hscale,
    Real.rpow_natCast]

theorem atMostPower_iff (x y u : Nat) : atMostPower x y u = true ↔ realUnits u ≤ realPower x y := by
  rw [← pow_le_pow_iff_left₀ (realUnits_nonneg u) (realPower_nonneg x y) Flt.scale_pos.ne', realPower_pow_scale, atMostPower,
    decide_eq_true_iff, ← unitsValue_cast, ← unitsValue_cast]
  exact_mod_cast Iff.rfl

theorem atLeastPower_iff (x y u : Nat) : atLeastPower x y u = true ↔ realPower x y ≤ realUnits u := by
  rw [← pow_le_pow_iff_left₀ (realPower_nonneg x y) (realUnits_nonneg u) Flt.scale_pos.ne', realPower_pow_scale, atLeastPower,
    decide_eq_true_iff, ← unitsValue_cast, ← unitsValue_cast]
  exact_mod_cast Iff.rfl

/-- A power of a finite magnitude with exponent below 1 is finite. -/
theorem realPower_lt {x y : Nat} (hx : x < 9218868437227405312) (hy : Flt.units y < Flt.scale) :
    realPower x y < realUnits (Flt.units 9218868437227405312) := by
  have hbase : realUnits (Flt.units x) ≤ realUnits (Flt.units 9218868437227405312) :=
    (realUnits_strictMono (Flt.units_strictMono hx)).le
  have hone : 1 < realUnits (Flt.units 9218868437227405312) := by
    rw [← realUnits_scale, ← units_of_one]
    exact realUnits_strictMono (Flt.units_strictMono (by decide))
  have hexp : realUnits (Flt.units y) < 1 := by rw [← realUnits_scale]; exact realUnits_strictMono hy
  calc realPower x y
      ≤ realUnits (Flt.units 9218868437227405312) ^ realUnits (Flt.units y) :=
        Real.rpow_le_rpow (realUnits_nonneg _) hbase (realUnits_nonneg _)
    _ < realUnits (Flt.units 9218868437227405312) ^ (1 : ℝ) := Real.rpow_lt_rpow_of_exponent_lt hone hexp
    _ = realUnits (Flt.units 9218868437227405312) := Real.rpow_one _

theorem powerFloor_lt (x y : Nat) : powerFloor x y < 9218868437227405312 := by
  rw [powerFloor]
  exact Nat.lt_succ_of_le (Nat.findGreatest_le _)

theorem realUnits_powerFloor_le (x y : Nat) : realUnits (Flt.units (powerFloor x y)) ≤ realPower x y := by
  rw [← atMostPower_iff, powerFloor]
  refine Nat.findGreatest_spec (P := fun m => atMostPower x y (Flt.units m) = true) (Nat.zero_le _) ?_
  rw [atMostPower_iff, Flt.units_zero, realUnits, Nat.cast_zero, zero_div]
  exact realPower_nonneg x y

theorem realPower_lt_powerFloor_succ {x y : Nat} (hfin : realPower x y < realUnits (Flt.units 9218868437227405312)) :
    realPower x y < realUnits (Flt.units (powerFloor x y + 1)) := by
  rcases (Nat.succ_le_of_lt (powerFloor_lt x y)).eq_or_lt with htop | hbelow
  · rwa [← Nat.succ_eq_add_one, htop]
  · rw [← not_le, ← atMostPower_iff]
    refine Nat.findGreatest_is_greatest (P := fun m => atMostPower x y (Flt.units m) = true) (k := powerFloor x y + 1) ?_
      (Nat.le_of_lt_succ hbelow)
    rw [powerFloor]
    exact Nat.lt_succ_self _

/-- One unit in the last place of the magnitude below the real power. -/
noncomputable def lastPlace (x y : Nat) : ℝ := realUnits (2 ^ Flt.binade (powerFloor x y))

theorem nearPower_within {x y c : Nat} (h : nearPower x y c = true) :
    |realUnits (Flt.units c) - realPower x y| ≤ lastPlace x y := by
  rw [nearPower, Bool.and_eq_true, atMostPower_iff, atLeastPower_iff, realUnits_add] at h
  obtain ⟨hlow, hhigh⟩ := h
  have hsub : realUnits (Flt.units c) ≤
      realUnits (Flt.units c - 2 ^ Flt.binade (powerFloor x y)) + realUnits (2 ^ Flt.binade (powerFloor x y)) := by
    rw [← realUnits_add]
    exact realUnits_strictMono.monotone (by omega)
  rw [lastPlace, abs_le]
  constructor <;> linarith

theorem powerFloor_within {x y : Nat} (hfin : realPower x y < realUnits (Flt.units 9218868437227405312)) :
    |realUnits (Flt.units (powerFloor x y)) - realPower x y| ≤ lastPlace x y := by
  have hlow := realUnits_powerFloor_le x y
  have hhigh := realPower_lt_powerFloor_succ hfin
  rw [Flt.units_succ, realUnits_add] at hhigh
  rw [lastPlace, abs_le]
  constructor <;> linarith [realUnits_nonneg (2 ^ Flt.binade (powerFloor x y))]

/-- `pow(x, E)` for a positive finite x is a magnitude near the real power, or the one below it, whatever the free value. -/
theorem powAtE_cases (m : Fin 9218868437227405312) : ∃ k : Fin 9218868437227405312, powAtE (.fin false m) = .fin false k ∧
    (nearPower m.val magnitudeE.val k.val = true ∨ k.val = powerFloor m.val magnitudeE.val) := by
  have hdef : powAtE (.fin false m) = Flt.ofMag false
      (if nearPower m.val magnitudeE.val (Config.powNear (.fin false m)).val then (Config.powNear (.fin false m)).val
        else powerFloor m.val magnitudeE.val) := by
    unfold powAtE
    rw [exponentE_eq]
  rw [hdef]
  split
  · next hnear => exact ⟨_, Flt.ofMag_of_lt (Fin.isLt _), .inl hnear⟩
  · exact ⟨⟨_, powerFloor_lt _ _⟩, Flt.ofMag_of_lt _, .inr rfl⟩

theorem pow_positive_base {m : Fin 9218868437227405312} (hm : 0 < m.val) (hone : .fin false m ≠ Flt.c1) :
    pow (.fin false m) exponentE = powAtE (.fin false m) := by
  have hzero : .fin false m ≠ Flt.zero false := by
    rw [Flt.zero, ne_eq, Flt.fin.injEq]
    rintro ⟨-, rfl⟩
    exact hm.ne rfl
  rw [pow, if_neg hone, if_neg (fun h => hzero h.1), if_neg (fun h => nomatch h.1), if_neg (fun h => nomatch h.1),
    if_neg (fun h => nomatch h.1), if_pos ⟨decide_eq_true hm, rfl⟩]

/-- The power of 1.0 is exact. -/
theorem realPower_one (y : Nat) : realPower 0x3FF0000000000000 y = 1 := by
  rw [realPower, units_of_one, realUnits_scale, Real.one_rpow]

/-- `pow(x, E)` of a positive finite x is a magnitude within one unit in the last place of the real power. -/
theorem pow_within_lastPlace {m : Fin 9218868437227405312} (hm : 0 < m.val) :
    ∃ k : Fin 9218868437227405312, pow (.fin false m) exponentE = .fin false k ∧
      |realUnits (Flt.units k.val) - realPower m.val magnitudeE.val| ≤ lastPlace m.val magnitudeE.val := by
  by_cases hone : .fin false m = Flt.c1
  · refine ⟨m, by rw [hone, pow_one_base], ?_⟩
    rw [c1_eq, Flt.fin.injEq] at hone
    obtain ⟨-, rfl⟩ := hone
    rw [realPower_one, units_of_one, realUnits_scale, sub_self, abs_zero]
    exact realUnits_nonneg _
  · obtain ⟨k, hpow, hk⟩ := powAtE_cases m
    refine ⟨k, by rw [pow_positive_base hm hone, hpow], ?_⟩
    rcases hk with hnear | hfloor
    · exact nearPower_within hnear
    · rw [hfloor]
      exact powerFloor_within (realPower_lt m.isLt units_magnitudeE_lt)

/-- Settles O44: the magnitude below the power is `powerFloor`, and the result is within its last place. -/
theorem powIsWithinOneUnitInTheLastPlace : Obligations.PowIsWithinOneUnitInTheLastPlace := by
  refine ⟨magnitudeE, exponentE_eq, fun m hm => ?_⟩
  obtain ⟨k, hpow, hwithin⟩ := pow_within_lastPlace hm
  have habove := realPower_lt_powerFloor_succ (realPower_lt m.isLt units_magnitudeE_lt)
  rw [Flt.units_succ] at habove
  exact ⟨k, ⟨_, powerFloor_lt m.val magnitudeE.val⟩, hpow, realUnits_powerFloor_le _ _, habove, hwithin⟩

end Sys2Proof.Machine
end

section
/-!
The step as the execution of the decoded command (10_state.md R21).
-/
namespace Sys2Proof.Machine

/-- A 72-bit word presented as a number is the word. -/
@[simp] theorem tableWord_toNat (w : CommandWord) : tableWord 72 w.toNat = w := by
  rw [tableWord, Nat.mod_eq_of_lt w.isLt, BitVec.ofNat_toNat, BitVec.setWidth_eq]

/-- Taking back the word just presented restores the state. -/
@[simp] theorem State.setEvents_present (s : State) (w : CommandWord) : (s.present w).setEvents s.events = s := rfl

theorem step_of_nil {s : State} (h : s.events = []) : step s = .next s := by
  simp [step, runNext, h]

theorem step_of_cons {s : State} {e : HostEvent} {rest : List HostEvent} (h : s.events = e :: rest) :
    step s = runEvent e (s.setEvents rest) := by
  simp [step, runNext, h]

theorem runWord_of_ok {w : CommandWord} {i : Instr} (h : decode w = .ok i) (s : State) : runWord w s = exec i s := by
  simp [runWord, h]

theorem runWord_of_reserved {w : CommandWord} {op : Byte} (h : decode w = .error (.reserved op)) (s : State) :
    runWord w s = .refused (.reservedCommand op) := by
  simp [runWord, h]

theorem step_of_command {s : State} {w : CommandWord} {i : Instr} {rest : List HostEvent}
    (hs : s.events = .command w :: rest) (hw : decode w = .ok i) : step s = exec i (s.setEvents rest) := by
  rw [step_of_cons hs, runEvent, runWord_of_ok hw]

/-- Settles O6: the word presented is the event the step takes, and taking it leaves the state it was presented to. -/
theorem stepRunsDecodedCommand : Obligations.StepRunsDecodedCommand := by
  refine ⟨fun s w i rest hs hw => step_of_command hs hw, fun s w i hw => ?_⟩
  have hfetch : s.withFetchWord 72 w.toNat = s.present w := by rw [State.withFetchWord, tableWord_toNat]
  rw [hfetch, step_of_command (w := w) (rest := s.events) rfl hw, State.setEvents_present]

end Sys2Proof.Machine
end

section
/-!
What no host and no bus can tell apart: each operation takes observably equal states to observably equal states, whatever
the hidden registers hold (10_state.md R23, R24, R26). An operation that reads a hidden register is given the fact that the
command has written it before, with the same value on both sides.
-/
namespace Sys2Proof.Machine

/-- The pressure registers the zero-denominator guard leaves as they were do not reach `P_FIX` (43_pressure.md R113). -/
theorem pressChain_pFix_congr (old old' : PressRegs) (adc fine : BitVec 32) (c : Calibration) :
    (pressChain old adc fine c).pFix = (pressChain old' adc fine c).pFix := by
  by_cases hzero : pressAcc1 (pressPv fine) c = 0#64
  · rw [pressChain_pFix_of_zero old hzero, pressChain_pFix_of_zero old' hzero]
  · rw [pressChain_pFix_of_ne_zero old hzero, pressChain_pFix_of_ne_zero old' hzero]

namespace State.observablyEqual
variable {s t : State}

theorem params (h : s.observablyEqual t) : s.params = t.params := by
  obtain ⟨hparams, -⟩ := h; exact hparams

theorem init (h : s.observablyEqual t) : s.init = t.init := by
  obtain ⟨-, hinit, -⟩ := h; exact hinit

/-- In the Ready state the coefficients are not hidden. -/
theorem cal (h : s.observablyEqual t) (hready : s.init = true) : s.cal = t.cal := by
  obtain ⟨-, -, hcal, -⟩ := h; exact hcal hready

theorem events (h : s.observablyEqual t) : s.events = t.events := by
  obtain ⟨-, -, -, hevents, -⟩ := h; exact hevents

theorem nextAnswer (h : s.observablyEqual t) : s.nextAnswer = t.nextAnswer := by
  obtain ⟨-, -, -, -, hanswers, hnonce, -⟩ := h
  rw [State.nextAnswer, State.nextAnswer, hanswers, hnonce]

/-! Updates of hidden registers, with any two values. -/

theorem setTFine (h : s.observablyEqual t) (v w : BitVec 32) : (s.setTFine v).observablyEqual (t.setTFine w) := h
theorem setRaw (h : s.observablyEqual t) (v w : BitVec 32) : (s.setRaw v).observablyEqual (t.setRaw w) := h
theorem setTemp (h : s.observablyEqual t) (v w : TempRegs) : (s.setTemp v).observablyEqual (t.setTemp w) := h
theorem setPress (h : s.observablyEqual t) (v w : PressRegs) : (s.setPress v).observablyEqual (t.setPress w) := h
theorem setHum (h : s.observablyEqual t) (v w : HumRegs) : (s.setHum v).observablyEqual (t.setHum w) := h
theorem setF0 (h : s.observablyEqual t) (v w : Flt) : (s.setF0 v).observablyEqual (t.setF0 w) := h
theorem setF1 (h : s.observablyEqual t) (v w : Flt) : (s.setF1 v).observablyEqual (t.setF1 w) := h

/-! Updates of what is observed, with the same value. -/

/-- Becoming Ready uncovers the coefficients, so they must be equal by then. -/
theorem setInit (h : s.observablyEqual t) {b : Bool} (hcal : b = true → s.cal = t.cal) :
    (s.setInit b).observablyEqual (t.setInit b) := by
  obtain ⟨hparams, -, -, hports⟩ := h
  exact ⟨hparams, rfl, hcal, hports⟩

theorem clearInit (h : s.observablyEqual t) : (s.setInit false).observablyEqual (t.setInit false) :=
  h.setInit fun hfalse => absurd hfalse Bool.false_ne_true

theorem setCal (h : s.observablyEqual t) (c : Calibration) : (s.setCal c).observablyEqual (t.setCal c) := by
  obtain ⟨hparams, hinit, -, hports⟩ := h
  exact ⟨hparams, hinit, fun _ => rfl, hports⟩

theorem setEvents (h : s.observablyEqual t) (es : List HostEvent) : (s.setEvents es).observablyEqual (t.setEvents es) := by
  obtain ⟨hparams, hinit, hcal, -, hrest⟩ := h
  exact ⟨hparams, hinit, hcal, rfl, hrest⟩

theorem record (h : s.observablyEqual t) (e : BusEvent) : (s.record e).observablyEqual (t.record e) := by
  obtain ⟨hparams, hinit, hcal, hevents, hanswers, hnonce, hhistory, hresponses⟩ := h
  exact ⟨hparams, hinit, hcal, hevents, hanswers, hnonce, congrArg (· ++ [e]) hhistory, hresponses⟩

theorem respond (h : s.observablyEqual t) (r : Response) : (s.respond r).observablyEqual (t.respond r) := by
  obtain ⟨hparams, hinit, hcal, hevents, hanswers, hnonce, hhistory, hresponses⟩ := h
  exact ⟨hparams, hinit, hcal, hevents, hanswers, hnonce, hhistory, congrArg (· ++ [r]) hresponses⟩

theorem raise (h : s.observablyEqual t) (k : ErrorKind) : (s.raise k).observablyEqual (t.raise k) := h.respond _

theorem dropAnswer (h : s.observablyEqual t) : s.dropAnswer.observablyEqual t.dropAnswer := by
  obtain ⟨hparams, hinit, hcal, hevents, hanswers, hnonce, hhistory, hresponses⟩ := h
  cases hs : s.answers with
  | nil =>
    rw [State.dropAnswer_of_nil hs, State.dropAnswer_of_nil (hanswers ▸ hs)]
    exact ⟨hparams, hinit, hcal, hevents, hanswers, congrArg (· + 1) hnonce, hhistory, hresponses⟩
  | cons a rest =>
    rw [State.dropAnswer_of_cons hs, State.dropAnswer_of_cons (hanswers ▸ hs)]
    exact ⟨hparams, hinit, hcal, hevents, rfl, hnonce, hhistory, hresponses⟩

/-- After power-on the hidden registers are drawn by the observed counter. -/
theorem powerOnReset (h : s.observablyEqual t) : s.powerOnReset.observablyEqual t.powerOnReset := by
  obtain ⟨hparams, -, -, hevents, hanswers, hnonce, hhistory, hresponses⟩ := h
  exact ⟨hparams, rfl, nofun, hevents, hanswers, congrArg (· + 1) hnonce, hhistory, hresponses⟩

/-! The operations that can raise: the rest of the command is compared on the two states it is run on. -/

theorem memRead (h : s.observablyEqual t) {addr : Byte} {n : Nat} {hn : n ≤ maxRead} {k : (Fin n → Byte) → State → State}
    (hk : ∀ b e, (s.dropAnswer.record e).observablyEqual (t.dropAnswer.record e) →
      (k b (s.dropAnswer.record e)).observablyEqual (k b (t.dropAnswer.record e))) :
    (s.memRead addr n hn k).observablyEqual (t.memRead addr n hn k) := by
  cases hs : s.nextAnswer with
  | ok w =>
    rw [State.memRead_ok hs, State.memRead_ok (h.nextAnswer ▸ hs)]
    exact hk _ _ (h.dropAnswer.record _)
  | error e =>
    rw [State.memRead_error hs, State.memRead_error (h.nextAnswer ▸ hs)]
    exact (h.dropAnswer.record _).raise _

/-- Every value the block writes is a parameter (40_setup_calibration.md R71, R76). -/
theorem memWrite (h : s.observablyEqual t) (value : Params → Byte) {addr : Byte} {k : State → State}
    (hk : ∀ u u' : State, u.observablyEqual u' → (k u).observablyEqual (k u')) :
    (s.memWrite addr (value s.params) k).observablyEqual (t.memWrite addr (value t.params) k) := by
  rw [h.params]
  cases hs : s.nextAnswer with
  | ok w =>
    rw [State.memWrite_ok hs, State.memWrite_ok (h.nextAnswer ▸ hs)]
    exact hk _ _ (h.dropAnswer.record _)
  | error e =>
    rw [State.memWrite_error hs, State.memWrite_error (h.nextAnswer ▸ hs)]
    exact (h.dropAnswer.record _).raise _

theorem requireReady (h : s.observablyEqual t) {k : State → State}
    (hk : s.init = true → (k s).observablyEqual (k t)) : (s.requireReady k).observablyEqual (t.requireReady k) := by
  cases hs : s.init with
  | true =>
    rw [State.requireReady_ready hs, State.requireReady_ready (h.init ▸ hs)]
    exact hk hs
  | false =>
    rw [State.requireReady_uninitialized hs, State.requireReady_uninitialized (h.init ▸ hs)]
    exact h.raise _

/-! SETUP and SOFT_RESET. -/

theorem pollReady {k : State → State} (hk : ∀ u u' : State, u.observablyEqual u' → (k u).observablyEqual (k u')) (n : Nat)
    (h : s.observablyEqual t) : (State.pollReady k n s).observablyEqual (State.pollReady k n t) := by
  induction n generalizing s t with
  | zero => exact h.raise _
  | succ n ih =>
    rw [State.pollReady, State.pollReady, h.params]
    refine h.memRead fun b e h' => ?_
    rw [h'.params]
    split
    · exact hk _ _ h'
    · exact ih h'

theorem resetSeq (h : s.observablyEqual t) {k : State → State}
    (hk : ∀ u u' : State, u.observablyEqual u' → (k u).observablyEqual (k u')) :
    (s.resetSeq k).observablyEqual (t.resetSeq k) := by
  unfold State.resetSeq
  refine h.memWrite Params.resetMagic fun u u' h => ?_
  rw [h.params]
  exact pollReady hk _ h

/-- The coefficients are written before they are uncovered (40_setup_calibration.md R72). -/
theorem loadAndConfigure (h : s.observablyEqual t) : s.loadAndConfigure.observablyEqual t.loadAndConfigure := by
  unfold State.loadAndConfigure
  refine h.memRead fun a _ h => h.memRead fun b _ h => ?_
  refine h.memWrite Params.ctrlHumValue fun _ _ h => h.memWrite Params.ctrlMeasValue fun _ _ h =>
    h.memWrite Params.configValue fun u u' h => ?_
  rw [h.params]
  exact ((h.setCal _).setInit fun _ => rfl).respond _

theorem setup (h : s.observablyEqual t) : s.setup.observablyEqual t.setup := by
  unfold State.setup
  refine h.clearInit.memRead fun id _ h => ?_
  rw [h.params]
  split
  · exact h.resetSeq fun _ _ h => h.loadAndConfigure
  · exact h.raise _

/-! The measurement commands. -/

/-- `TempRead` writes `RAW`, the temperature registers and `T_FINE` from the sample and the coefficients alone. -/
theorem tempRead (h : s.observablyEqual t) (hready : s.init = true) {k : State → State}
    (hk : ∀ u u' : State, u.observablyEqual u' → u.cal = u'.cal → u.tFine = u'.tFine → (k u).observablyEqual (k u')) :
    (s.tempRead k).observablyEqual (t.tempRead k) := by
  have hcal := h.cal hready
  unfold State.tempRead State.fetchT
  refine h.memRead fun b _ h => hk _ _ (((h.setRaw _ _).setTemp _ _).setTFine _ _) ?_ ?_ <;> simp [hcal]

theorem pressRead (h : s.observablyEqual t) (hready : s.init = true) {k : State → State}
    (hk : ∀ u u' : State, u.observablyEqual u' → u.press.pFix = u'.press.pFix → (k u).observablyEqual (k u')) :
    (s.pressRead k).observablyEqual (t.pressRead k) := by
  unfold State.pressRead State.fetchP
  refine h.tempRead hready fun u u' h hcal hfine => h.memRead fun b _ h => hk _ _ ((h.setRaw _ _).setPress _ _) ?_
  simpa [hcal, hfine] using pressChain_pFix_congr _ _ _ _ _

theorem altitudeEngine (h : s.observablyEqual t) (hf0 : s.f0 = t.f0) (sea : Flt) :
    (s.altitudeEngine sea).observablyEqual (t.altitudeEngine sea) := by
  simp only [State.altitudeEngine, State.setF0_f0, State.setF1_f1, hf0]
  exact (((h.setF0 _ _).setF1 _ _).setF0 _ _).respond _

end State.observablyEqual

/-- Each command leads from observably equal states to observably equal states. -/
theorem exec_outcomesAgree {s t : State} (h : s.observablyEqual t) (i : Instr) : outcomesAgree (exec i s) (exec i t) := by
  cases i with
  | setup => exact h.setup
  | softReset => exact h.clearInit.resetSeq fun _ _ h => h.respond _
  | readTemperature =>
    refine h.requireReady fun hready => h.tempRead hready fun u u' h _ hfine => ?_
    rw [hfine]
    exact h.respond _
  | readPressure =>
    refine h.requireReady fun hready => h.pressRead hready fun u u' h hfix => ?_
    rw [hfix]
    exact h.respond _
  | readHumidity =>
    refine h.requireReady fun hready => h.tempRead hready fun u u' h hcal hfine => h.memRead fun b _ h => ?_
    simp only [State.setRaw_raw, State.setRaw_tFine, State.setRaw_cal, State.record_tFine, State.record_cal,
      State.dropAnswer_tFine, State.dropAnswer_cal, State.setHum_hum, State.setF0_f0, hcal, hfine]
    exact (((h.setRaw _ _).setHum _ _).setF0 _ _).respond _
  | readAltitude arg =>
    refine h.requireReady fun hready => h.pressRead hready fun u u' h hfix => ?_
    exact (h.setF0 _ _).altitudeEngine (by rw [State.setF0_f0, State.setF0_f0, hfix]) _

theorem runWord_outcomesAgree {s t : State} (h : s.observablyEqual t) (w : CommandWord) :
    outcomesAgree (runWord w s) (runWord w t) := by
  cases hw : decode w with
  | ok i =>
    rw [runWord_of_ok hw, runWord_of_ok hw]
    exact exec_outcomesAgree h i
  | error err =>
    obtain ⟨op⟩ := err
    rw [runWord_of_reserved hw, runWord_of_reserved hw]
    rfl

theorem runEvent_outcomesAgree {s t : State} (h : s.observablyEqual t) (e : HostEvent) :
    outcomesAgree (runEvent e s) (runEvent e t) := by
  cases e with
  | command w => exact runWord_outcomesAgree h w
  | overlap first second => exact rfl
  | intrusion w => exact rfl
  | powerOn => exact h.powerOnReset

/-- Settles O58: the same event is taken on both sides, and no operation it runs carries a hidden register over. -/
theorem hiddenRegistersAreUnobservable : Obligations.HiddenRegistersAreUnobservable := by
  intro s t h
  cases hs : s.events with
  | nil =>
    rw [step_of_nil hs, step_of_nil (h.events ▸ hs)]
    exact h
  | cons e rest =>
    rw [step_of_cons hs, step_of_cons (h.events ▸ hs)]
    exact runEvent_outcomesAgree (h.setEvents rest) e

end Sys2Proof.Machine
end

section
/-!
The command word as its two fields, the decoder by the fields it reads, and the refusal of a reserved word
(30_encoding.md R50, R51, R53).
-/
namespace Sys2Proof

/-! The fields of a word written as `op` above `arg` (R50). -/

@[simp] theorem CommandWord.op_append (op : Byte) (arg : BitVec 64) : CommandWord.op (op ++ arg) = op :=
  BitVec.extractLsb'_append_eq_left

@[simp] theorem CommandWord.arg_append (op : Byte) (arg : BitVec 64) : CommandWord.arg (op ++ arg) = arg :=
  BitVec.extractLsb'_append_eq_right

theorem CommandWord.append_op_arg (w : CommandWord) : w.op ++ w.arg = w :=
  BitVec.extractLsb'_append_extractLsb' (w := 8) (len := 64)

theorem CommandWord.wellFormed_iff (w : CommandWord) : w.wellFormed = true ↔ w.op.toNat ≤ 5 := decide_eq_true_iff

/-- The encoder's word has the command's opcode and argument, for every command. -/
theorem encode_fields (i : Instr) : Laws.OpField.Statement i := by
  cases i with
  | setup => exact Laws.OpField.setup
  | softReset => exact Laws.OpField.softReset
  | readTemperature => exact Laws.OpField.readTemperature
  | readPressure => exact Laws.OpField.readPressure
  | readHumidity => exact Laws.OpField.readHumidity
  | readAltitude s => exact Laws.OpField.readAltitude s

@[simp] theorem op_encode (i : Instr) : (encode i).op = i.opcode := by
  obtain ⟨hop, -, -⟩ := encode_fields i; exact hop

@[simp] theorem arg_encode (i : Instr) : (encode i).arg = i.argument := by
  obtain ⟨-, harg, -⟩ := encode_fields i; exact harg

/-! What the decoder accepts, by `op`, and by `arg` in format C1 alone (R51). -/

/-- The decoder's verdict is a command exactly where `op` is its opcode and, in format C1, `arg` its operand. -/
theorem decode_eq_ok_iff (w : CommandWord) (i : Instr) :
    decode w = .ok i ↔ w.op = i.opcode ∧ (w.op = 0x05#8 → w.arg = i.argument) := by
  constructor
  · intro h
    unfold decode at h
    split_ifs at h with h0 h1 h2 h3 h4 h5 <;> cases h
    · rw [h0]; exact ⟨rfl, nofun⟩
    · rw [h1]; exact ⟨rfl, nofun⟩
    · rw [h2]; exact ⟨rfl, nofun⟩
    · rw [h3]; exact ⟨rfl, nofun⟩
    · rw [h4]; exact ⟨rfl, nofun⟩
    · exact ⟨h5, fun _ => rfl⟩
  · rintro ⟨hop, harg⟩
    cases i with
    | readAltitude s => simp [decode, hop, harg hop, Instr.opcode, Instr.argument]
    | _ => simp [decode, hop, Instr.opcode]

theorem decode_append_eq_ok_iff (op : Byte) (arg : BitVec 64) (i : Instr) :
    decode (op ++ arg) = .ok i ↔ op = i.opcode ∧ (op = 0x05#8 → arg = i.argument) := by
  rw [decode_eq_ok_iff, CommandWord.op_append, CommandWord.arg_append]

theorem Instr.opcode_le (i : Instr) : i.opcode.toNat ≤ 5 := by
  cases i with
  | readAltitude s => exact le_refl 5
  | _ => decide

/-- Each of the six opcodes is that of a command with any given operand in format C1 (R51). -/
theorem exists_opcode_eq {op : Byte} (h : op.toNat ≤ 5) (arg : BitVec 64) :
    ∃ i : Instr, op = i.opcode ∧ (op = 0x05#8 → arg = i.argument) := by
  obtain rfl | rfl | rfl | rfl | rfl | rfl :
      op = 0x00#8 ∨ op = 0x01#8 ∨ op = 0x02#8 ∨ op = 0x03#8 ∨ op = 0x04#8 ∨ op = 0x05#8 := by
    simp only [← BitVec.toNat_inj, BitVec.toNat_ofNat]; omega
  · exact ⟨.setup, rfl, nofun⟩
  · exact ⟨.softReset, rfl, nofun⟩
  · exact ⟨.readTemperature, rfl, nofun⟩
  · exact ⟨.readPressure, rfl, nofun⟩
  · exact ⟨.readHumidity, rfl, nofun⟩
  · exact ⟨.readAltitude arg, rfl, fun _ => rfl⟩

theorem decode_of_reserved {w : CommandWord} (h : 6 ≤ w.op.toNat) : decode w = .error (.reserved w.op) := by
  have hne : ∀ n < 6, w.op ≠ BitVec.ofNat 8 n := by
    intro n hn heq
    rw [heq, BitVec.toNat_ofNat] at h
    omega
  rw [decode, if_neg (hne 0 (by decide)), if_neg (hne 1 (by decide)), if_neg (hne 2 (by decide)),
    if_neg (hne 3 (by decide)), if_neg (hne 4 (by decide)), if_neg (hne 5 (by decide))]

end Sys2Proof
end

section
/-!
Proofs of the statements about command words and their textual form.
-/
namespace Sys2Proof.Machine

/-- Settles O4: the encoder writes the two fields the decoder reads. -/
theorem decodeOfEncode : Obligations.DecodeOfEncode := fun i _ =>
  (decode_eq_ok_iff (encode i) i).mpr ⟨op_encode i, fun _ => arg_encode i⟩

/-- Settles O5: a word is its two fields, and the decoder's verdict fixes `op`, and `arg` in format C1. -/
theorem decodedWordKeepsItsBits : Obligations.DecodedWordKeepsItsBits := by
  intro w
  rw [CommandWord.wellFormed_iff]
  constructor
  · intro i hdecode
    obtain ⟨hop, harg⟩ := (decode_eq_ok_iff w i).mp hdecode
    refine ⟨hop ▸ i.opcode_le, by rw [op_encode, hop], fun h5 => ?_⟩
    calc encode i = w.op ++ w.arg := by rw [encode, ← hop, ← harg h5]
      _ = w := w.append_op_arg
  · intro hwf
    obtain ⟨i, hi⟩ := exists_opcode_eq hwf w.arg
    exact ⟨i, (decode_eq_ok_iff w i).mpr hi⟩

/-- Settles O1: `arg` counts under the one opcode of format C1. -/
theorem decodeReadsOpcodeAndArgument : Obligations.DecodeReadsOpcodeAndArgument := by
  intro arg
  simp only [decode_append_eq_ok_iff]
  exact ⟨⟨rfl, nofun⟩, ⟨rfl, nofun⟩, ⟨rfl, nofun⟩, ⟨rfl, nofun⟩, ⟨rfl, nofun⟩, rfl, fun _ => rfl⟩

/-- Settles O2, by running the decoder. -/
theorem programWordsDecode : Obligations.ProgramWordsDecode := ⟨rfl, rfl, rfl, rfl, rfl, rfl⟩

/-- Settles O3: the word at the command port is the one the step decodes. -/
theorem reservedWordIsRefused : Obligations.ReservedWordIsRefused := by
  intro s w rest hop hs
  have hdecode := decode_of_reserved hop
  exact ⟨hdecode, by rw [step_of_cons hs, runEvent, runWord_of_reserved hdecode]⟩

/-- Settles O59, by running the reader. -/
theorem textualFormAssembles : Obligations.TextualFormAssembles := by
  refine ⟨⟨?_, ?_, ?_, ?_, ?_, ?_⟩, ?_⟩ <;> decide +kernel

end Sys2Proof.Machine
end

section
/-!
FLT bit patterns as a sign and a magnitude (00_scope.md R13, 30_encoding.md R50).
-/
namespace Sys2Proof.Flt

/-- The pattern with this sign in bit 63 and this magnitude below it. -/
def signedPattern (neg : Bool) (m : Nat) : BitVec 64 := BitVec.ofNat 64 (m + if neg then 2 ^ 63 else 0)

theorem toBits_inf (fill : BitVec 64) (neg : Bool) : toBits fill (.inf neg) = signedPattern neg 9218868437227405312 := rfl

theorem toBits_fin (fill : BitVec 64) (neg : Bool) (m : Fin 9218868437227405312) :
    toBits fill (.fin neg m) = signedPattern neg m.val := rfl

theorem toNat_signedPattern {m : Nat} (neg : Bool) (h : m < 2 ^ 63) :
    (signedPattern neg m).toNat = m + if neg then 2 ^ 63 else 0 := by
  rw [signedPattern, BitVec.toNat_ofNat, Nat.mod_eq_of_lt]
  split <;> omega

theorem msb_signedPattern {m : Nat} (neg : Bool) (h : m < 2 ^ 63) : (signedPattern neg m).msb = neg := by
  rw [BitVec.msb_eq_decide, toNat_signedPattern neg h]
  cases neg with
  | false => exact decide_eq_false (by simpa using h)
  | true => exact decide_eq_true (Nat.le_add_left _ _)

theorem toNat_signedPattern_mod {m : Nat} (neg : Bool) (h : m < 2 ^ 63) : (signedPattern neg m).toNat % 2 ^ 63 = m := by
  rw [toNat_signedPattern neg h]
  split <;> omega

/-- Every pattern is its sign and its magnitude. -/
theorem signedPattern_msb_toNat_mod (b : BitVec 64) : signedPattern b.msb (b.toNat % 2 ^ 63) = b := by
  have hlt := b.isLt
  refine BitVec.eq_of_toNat_eq ?_
  rw [toNat_signedPattern _ (Nat.mod_lt _ (by decide)), BitVec.msb_eq_decide]
  simp only [decide_eq_true_eq]
  split <;> omega

/-! The three cases of `ofBits`, by the magnitude against that of infinity. -/

theorem ofBits_of_lt {b : BitVec 64} (h : b.toNat % 2 ^ 63 < 9218868437227405312) : ofBits b = .fin b.msb ⟨_, h⟩ := dif_pos h

theorem ofBits_of_eq {b : BitVec 64} (h : b.toNat % 2 ^ 63 = 9218868437227405312) : ofBits b = .inf b.msb := by
  rw [ofBits, dif_neg (by omega), if_pos h]

theorem ofBits_of_gt {b : BitVec 64} (h : 9218868437227405312 < b.toNat % 2 ^ 63) : ofBits b = .nan := by
  rw [ofBits, dif_neg (by omega), if_neg (by omega)]

theorem ofBits_eq_nan_iff (b : BitVec 64) : ofBits b = .nan ↔ 9218868437227405312 < b.toNat % 2 ^ 63 := by
  refine ⟨fun h => ?_, ofBits_of_gt⟩
  rcases lt_trichotomy (b.toNat % 2 ^ 63) 9218868437227405312 with hlt | heq | hgt
  · rw [ofBits_of_lt hlt] at h; cases h
  · rw [ofBits_of_eq heq] at h; cases h
  · exact hgt

theorem ofBits_signedPattern_of_lt (neg : Bool) (m : Fin 9218868437227405312) :
    ofBits (signedPattern neg m.val) = .fin neg m := by
  have hm : m.val < 2 ^ 63 := m.isLt.trans (by decide)
  have hmod := toNat_signedPattern_mod neg hm
  rw [ofBits_of_lt (by rw [hmod]; exact m.isLt), msb_signedPattern neg hm]
  congr

/-! Patterns of a NaN: the fraction is not 0 under an exponent of ones. -/

theorem fraction_eq_zero_iff (b : BitVec 64) : b &&& 0x000FFFFFFFFFFFFF#64 = 0#64 ↔ b.toNat % 2 ^ 52 = 0 := by
  rw [← BitVec.toNat_inj, BitVec.toNat_and, ← Nat.and_two_pow_sub_one_eq_mod]
  rfl

/-- The magnitude of a pattern with ones set in it is at least those ones. -/
theorem le_toNat_or_mod {x c : BitVec 64} (hc : c.toNat < 2 ^ 63) : c.toNat ≤ (x ||| c).toNat % 2 ^ 63 := by
  rw [BitVec.toNat_or, Nat.or_mod_two_pow, Nat.mod_eq_of_lt hc]
  exact Nat.right_le_or

theorem ofBits_nanPattern (fill : BitVec 64) : ofBits (nanPattern fill) = .nan := by
  rw [ofBits_eq_nan_iff, nanPattern]
  split
  · calc 9218868437227405312 < (0x7FF8000000000000#64).toNat := by decide
        _ ≤ _ := le_toNat_or_mod (by decide)
  · next hfrac =>
    rw [fraction_eq_zero_iff] at hfrac
    have hle : 9218868437227405312 ≤ (fill ||| 0x7FF0000000000000#64).toNat % 2 ^ 63 :=
      le_toNat_or_mod (c := 0x7FF0000000000000#64) (by decide)
    have hkeep : (fill ||| 0x7FF0000000000000#64).toNat % 2 ^ 52 = fill.toNat % 2 ^ 52 := by
      rw [BitVec.toNat_or, Nat.or_mod_two_pow]
      exact Nat.or_zero _
    omega

/-- Setting an exponent of ones in a pattern that has it changes nothing. -/
theorem or_exponent_eq_self {b : BitVec 64} (h : b.toNat / 2 ^ 52 % 2 ^ 11 = 2 ^ 11 - 1) :
    b ||| 0x7FF0000000000000#64 = b := by
  have hones : ∀ i < 64, (0x7FF0000000000000#64).getLsbD i = true → 52 ≤ i ∧ i - 52 < 11 := by decide
  refine BitVec.eq_of_getLsbD_eq fun i hi => ?_
  rw [BitVec.getLsbD_or]
  cases hc : (0x7FF0000000000000#64).getLsbD i with
  | false => exact Bool.or_false _
  | true =>
    obtain ⟨hlow, hhigh⟩ := hones i hi hc
    have hbit : (b.toNat / 2 ^ 52 % 2 ^ 11).testBit (i - 52) = true := by
      rw [h, Nat.testBit_two_pow_sub_one]; exact decide_eq_true hhigh
    rw [Nat.testBit_mod_two_pow, Nat.testBit_div_two_pow, Nat.sub_add_cancel hlow, Bool.and_eq_true] at hbit
    obtain ⟨-, hset⟩ := hbit
    rw [Bool.or_true]
    exact hset.symm

theorem nanPattern_of_ofBits_eq_nan {b : BitVec 64} (h : ofBits b = .nan) : nanPattern b = b := by
  rw [ofBits_eq_nan_iff] at h
  have hfrac : ¬ b &&& 0x000FFFFFFFFFFFFF#64 = 0#64 := by rw [fraction_eq_zero_iff]; omega
  rw [nanPattern, if_neg hfrac]
  exact or_exponent_eq_self (by omega)

/-! Both ways round. -/

theorem ofBits_toBits (fill : BitVec 64) (v : Flt) : ofBits (toBits fill v) = v := by
  cases v with
  | nan => exact ofBits_nanPattern fill
  | inf neg =>
    rw [toBits_inf, ofBits_of_eq (toNat_signedPattern_mod neg (by decide)), msb_signedPattern neg (by decide)]
  | fin neg m => rw [toBits_fin, ofBits_signedPattern_of_lt]

theorem toBits_ofBits (fill : BitVec 64) {b : BitVec 64} (h : ofBits b ≠ .nan) : toBits fill (ofBits b) = b := by
  rcases lt_trichotomy (b.toNat % 2 ^ 63) 9218868437227405312 with hlt | heq | hgt
  · rw [ofBits_of_lt hlt, toBits_fin, signedPattern_msb_toNat_mod]
  · rw [ofBits_of_eq heq, toBits_inf, ← heq, signedPattern_msb_toNat_mod]
  · exact absurd (ofBits_of_gt hgt) h

end Sys2Proof.Flt
end

section
/-!
Proof of the statement about FLT bit patterns.
-/
namespace Sys2Proof.Machine

/-- Settles O47: a pattern is a sign and a magnitude, and the magnitudes above that of infinity are those of a NaN. -/
theorem fltPatternsRoundTrip : Obligations.FltPatternsRoundTrip :=
  ⟨Flt.ofBits_toBits, fun fill _ => Flt.toBits_ofBits fill, fun _ => Flt.nanPattern_of_ofBits_eq_nan⟩

end Sys2Proof.Machine
end

section
/-!
The response word.
-/
namespace Sys2Proof.Machine

/-- The response word is the status above the value (30_encoding.md R54). -/
theorem Response.word_status (fill : BitVec 64) (r : Response) : (r.word fill).extractLsb' 64 8 = r.status :=
  BitVec.extractLsb'_append_eq_left

theorem Response.word_value (fill : BitVec 64) (v : Flt) :
    (Response.word fill (.value v)).extractLsb' 0 64 = v.toBits fill :=
  BitVec.extractLsb'_append_eq_right

/-- Settles O49: the status code of each kind, and the field below it. -/
theorem responseWordLayout : Obligations.ResponseWordLayout := fun fill =>
  ⟨Response.word_status fill _, fun v => ⟨Response.word_status fill _, Response.word_value fill v⟩,
    Response.word_status fill _, Response.word_status fill _, fun _ => Response.word_status fill _,
    Response.word_status fill _⟩

end Sys2Proof.Machine
end

section
/-!
One response a command: each operation is given the rest of the command, and ends with one more response than were there
before, of a kind the command can give, if the rest of the command does (30_encoding.md R54, 60_exceptions.md R150, R158).
-/
namespace Sys2Proof.Machine

/-- A state in which the command has given one response, of a kind it can give, after the earlier ones. -/
def AnsweredOnce (i : Instr) (earlier : List Response) (t : State) : Prop :=
  ∃ r, t.responses = earlier ++ [r] ∧ responseAllowed i r = true

namespace AnsweredOnce
variable {i : Instr} {earlier : List Response} {s : State}

theorem respond {r : Response} (hs : s.responses = earlier) (hr : responseAllowed i r = true) :
    AnsweredOnce i earlier (s.respond r) := ⟨r, by rw [State.respond_responses, hs], hr⟩

theorem raise {k : ErrorKind} (hs : s.responses = earlier) (hk : responseAllowed i (.err k) = true) :
    AnsweredOnce i earlier (s.raise k) := respond hs hk

/-! The bus: a failed transaction is a response every command can give. -/

theorem memRead {addr : Byte} {n : Nat} {hn : n ≤ maxRead} {k : (Fin n → Byte) → State → State}
    (hs : s.responses = earlier) (hk : ∀ b u, u.responses = earlier → AnsweredOnce i earlier (k b u)) :
    AnsweredOnce i earlier (s.memRead addr n hn k) :=
  State.memRead_induct (fun _ _ => hk _ _ (by simpa using hs)) fun _ _ => raise (by simpa using hs) rfl

theorem memWrite {addr v : Byte} {k : State → State}
    (hs : s.responses = earlier) (hk : ∀ u, u.responses = earlier → AnsweredOnce i earlier (k u)) :
    AnsweredOnce i earlier (s.memWrite addr v k) :=
  State.memWrite_induct (fun _ _ => hk _ (by simpa using hs)) fun _ _ => raise (by simpa using hs) rfl

/-! SETUP and SOFT_RESET. -/

theorem resetSeq {k : State → State} (hi : measurement i = false)
    (hs : s.responses = earlier) (hk : ∀ u, u.responses = earlier → AnsweredOnce i earlier (k u)) :
    AnsweredOnce i earlier (s.resetSeq k) := by
  refine memWrite hs fun u hu => ?_
  refine State.pollReady_induct (P := fun u => u.responses = earlier) ?_ hk ?_ ?_ _ u hu
  · exact fun _ _ hu _ => by simpa using hu
  · exact fun _ _ hu _ => raise (by simpa using hu) rfl
  · exact fun _ hu => raise hu (by simp [responseAllowed, hi])

theorem loadAndConfigure (hi : measurement i = false) (hs : s.responses = earlier) :
    AnsweredOnce i earlier s.loadAndConfigure :=
  memRead hs fun _ _ hs => memRead hs fun _ _ hs =>
    memWrite hs fun _ hs => memWrite hs fun _ hs => memWrite hs fun _ hs => respond hs (by simp [responseAllowed, hi])

theorem setup (hs : s.responses = earlier) : AnsweredOnce .setup earlier s.setup := by
  refine memRead hs fun id u hu => ?_
  split
  · exact resetSeq rfl hu fun _ hu => loadAndConfigure rfl hu
  · exact raise hu rfl

/-! The measurement commands. -/

theorem requireReady {k : State → State} (hi : measurement i = true)
    (hs : s.responses = earlier) (hk : AnsweredOnce i earlier (k s)) : AnsweredOnce i earlier (s.requireReady k) :=
  State.requireReady_induct (fun _ => hk) fun _ => raise hs hi

theorem tempRead {k : State → State}
    (hs : s.responses = earlier) (hk : ∀ u, u.responses = earlier → AnsweredOnce i earlier (k u)) :
    AnsweredOnce i earlier (s.tempRead k) :=
  memRead hs fun _ _ hu => hk _ hu

theorem pressRead {k : State → State}
    (hs : s.responses = earlier) (hk : ∀ u, u.responses = earlier → AnsweredOnce i earlier (k u)) :
    AnsweredOnce i earlier (s.pressRead k) :=
  tempRead hs fun _ hu => memRead hu fun _ _ hu => hk _ hu

theorem altitudeEngine (hi : measurement i = true) (hs : s.responses = earlier) (sea : Flt) :
    AnsweredOnce i earlier (s.altitudeEngine sea) := by
  refine respond ?_ hi
  rw [State.setF0_responses, State.setF1_responses, State.setF0_responses, hs]

end AnsweredOnce

/-- Each command leads to a state in which it has answered once. -/
theorem exec_answeredOnce (i : Instr) (s : State) : ∃ t, exec i s = .next t ∧ AnsweredOnce i s.responses t := by
  cases i with
  | setup => exact ⟨_, rfl, .setup rfl⟩
  | softReset => exact ⟨_, rfl, .resetSeq rfl rfl fun _ hu => .respond hu rfl⟩
  | readTemperature => exact ⟨_, rfl, .requireReady rfl rfl <| .tempRead rfl fun _ hu => .respond hu rfl⟩
  | readPressure => exact ⟨_, rfl, .requireReady rfl rfl <| .pressRead rfl fun _ hu => .respond hu rfl⟩
  | readHumidity =>
    exact ⟨_, rfl, .requireReady rfl rfl <| .tempRead rfl fun _ hu => .memRead hu fun _ _ hu => .respond hu rfl⟩
  | readAltitude arg =>
    refine ⟨_, rfl, .requireReady rfl rfl <| .pressRead rfl fun u hu => .altitudeEngine rfl ?_ _⟩
    rw [State.setF0_responses, hu]

/-- Settles O50: every operation of a command ends in one response, or hands on the earlier ones unchanged. -/
theorem everyCommandAnswersOnce : Obligations.EveryCommandAnswersOnce := by
  intro i s
  obtain ⟨t, hexec, r, hresponses, hallowed⟩ := exec_answeredOnce i s
  exact ⟨t, r, hexec, hresponses, hallowed⟩

end Sys2Proof.Machine
end

section
/-!
A command as a list of bus requests: what its rest leads to where every request is answered, and the state it stops in where
the collaborator fails one (20_memory.md R36, R48, 60_exceptions.md R153, R158).
-/
namespace Sys2Proof.Machine

/-- The state once the requests have been given these answers, as far as the answers go. -/
def State.after (s : State) (rs : List BusRequest) (ws : List Window) : State :=
  (s.dropAnswers ws.length).recordAll (completed rs ws)

/-- The state once the requests have been given these answers and the collaborator has failed the next, `r`. -/
def State.stopped (s : State) (rs : List BusRequest) (ws : List Window) (r : BusRequest) (e : BusErr) : State :=
  ((s.after rs ws).dropAnswer.record (r.failed e)).raise (.busError e)

theorem State.after_nil (s : State) (rs : List BusRequest) : s.after rs [] = s := by
  rw [State.after, completed, List.zipWith_nil_right, State.recordAll_nil]; rfl

theorem State.after_cons (s : State) (r : BusRequest) (rs : List BusRequest) (w : Window) (ws : List Window) :
    s.after (r :: rs) (w :: ws) = (s.dropAnswer.record (r.answered w)).after rs ws := by
  simp [State.after, State.dropAnswers, completed, State.record_eq_recordAll]

theorem State.stopped_nil (s : State) (rs : List BusRequest) (r : BusRequest) (e : BusErr) :
    s.stopped rs [] r e = (s.dropAnswer.record (r.failed e)).raise (.busError e) := by
  rw [State.stopped, State.after_nil]

theorem State.stopped_cons (s : State) (q : BusRequest) (rs : List BusRequest) (w : Window) (ws : List Window)
    (r : BusRequest) (e : BusErr) :
    s.stopped (q :: rs) (w :: ws) r e = (s.dropAnswer.record (q.answered w)).stopped rs ws r e := by
  rw [State.stopped, State.after_cons]; rfl

/-! Both states field by field, and `INIT` in them, which no transaction writes. -/

theorem State.after_eq (s : State) (rs : List BusRequest) (ws : List Window) :
    s.after rs ws = { s.dropAnswers ws.length with history := s.history ++ completed rs ws } := by
  rw [State.after, State.recordAll, State.dropAnswers_history]

theorem State.stopped_eq (s : State) (rs : List BusRequest) (ws : List Window) (r : BusRequest) (e : BusErr) :
    s.stopped rs ws r e = { s.dropAnswers (ws.length + 1) with
      history := s.history ++ completed rs ws ++ [r.failed e]
      responses := s.responses ++ [.err (.busError e)] } := by
  simp only [State.stopped, State.after, State.dropAnswer_of_recordAll, State.dropAnswers_dropAnswer]
  simp [State.recordAll, State.record, State.raise, State.respond]

theorem State.after_setInit (s : State) (b : Bool) (rs : List BusRequest) (ws : List Window) :
    (s.setInit b).after rs ws = (s.after rs ws).setInit b := by
  rw [State.after, State.dropAnswers_of_setInit]; rfl

theorem State.stopped_setInit (s : State) (b : Bool) (rs : List BusRequest) (ws : List Window) (r : BusRequest) (e : BusErr) :
    (s.setInit b).stopped rs ws r e = (s.stopped rs ws r e).setInit b := by
  rw [State.stopped, State.after_setInit, State.dropAnswer_of_setInit]; rfl

/-- `t` is what a command with the requests `rs` makes of `s`, the next answers being `ws`: related by `Q` to the state after
the last answer if that is the answer to the last request, and stopped at the next request if the collaborator fails it. -/
structure State.Follows (s : State) (rs : List BusRequest) (ws : List Window) (Q : State → State → Prop) (t : State) :
    Prop where
  completes : s.answersBegin (ws.map .ok) → ws.length = rs.length → Q (s.after rs ws) t
  stops : ∀ (e : BusErr) (r : BusRequest), s.answersBegin (ws.map .ok ++ [.error e]) → rs[ws.length]? = some r →
    t = s.stopped rs ws r e

namespace State.Follows
variable {s : State} {p : Params} {rs : List BusRequest} {ws : List Window} {Q : State → State → Prop}

/-- A command with no request left has done what it does. -/
theorem done {t : State} (h : Q s t) : s.Follows [] ws Q t where
  completes _ hlen := by
    obtain rfl : ws = [] := List.eq_nil_of_length_eq_zero hlen
    rwa [State.after_nil]
  stops _ _ _ hr := by cases hr

/-- One request: what its answer leads to follows the others, and its failure is raised. -/
theorem request {r : BusRequest} {next : Window → State} {t : State}
    (hok : ∀ w, s.nextAnswer = .ok w → t = next w)
    (herr : ∀ e, s.nextAnswer = .error e → t = (s.dropAnswer.record (r.failed e)).raise (.busError e))
    (hnext : ∀ w ws', ws = w :: ws' → (s.dropAnswer.record (r.answered w)).Follows rs ws' Q (next w)) :
    s.Follows (r :: rs) ws Q t := by
  cases ws with
  | nil =>
    refine ⟨fun _ hlen => (Nat.succ_ne_zero _ hlen.symm).elim, fun e q hans hq => ?_⟩
    obtain ⟨he, -⟩ := hans
    obtain rfl : r = q := Option.some.inj hq
    rw [herr e he, State.stopped_nil]
  | cons w ws' =>
    obtain ⟨hcompletes, hstops⟩ := hnext w ws' rfl
    constructor
    · rintro ⟨hw, hans⟩ hlen
      rw [hok w hw, State.after_cons]
      exact hcompletes (by simpa [State.record_eq_recordAll] using hans) (Nat.succ.inj hlen)
    · rintro e q ⟨hw, hans⟩ hq
      rw [hok w hw, State.stopped_cons]
      exact hstops e q (by simpa [State.record_eq_recordAll] using hans) hq

/-! A request the parameters `p` decide, and what its answer leads to under the same parameters. -/

theorem memRead {addr : Byte} {n : Nat} {hn : n ≤ maxRead} {k : (Fin n → Byte) → State → State} (hs : s.params = p)
    (hk : ∀ w ws', ws = w :: ws' → ∀ u : State, u.params = p → u.Follows rs ws' Q (k (Window.get w hn) u)) :
    s.Follows (.read addr n :: rs) ws Q (s.memRead addr n hn k) :=
  request (fun _ => State.memRead_ok) (fun _ => State.memRead_error) fun w ws' hws => hk w ws' hws _ (by simpa using hs)

/-- Every value the block writes is a parameter (40_setup_calibration.md R71, R76). -/
theorem memWrite {addr : Byte} (value : Params → Byte) {k : State → State} (hs : s.params = p)
    (hk : ∀ w ws', ws = w :: ws' → ∀ u : State, u.params = p → u.Follows rs ws' Q (k u)) :
    s.Follows (.write addr (value p) :: rs) ws Q (s.memWrite addr (value s.params) k) := by
  rw [← hs] at hk ⊢
  exact request (fun _ => State.memWrite_ok) (fun _ => State.memWrite_error) fun w ws' hws => hk w ws' hws _ (by simp)

end State.Follows
end Sys2Proof.Machine
end

section
/-!
SETUP and SOFT_RESET as the lists of their requests (40_setup_calibration.md R71, R72).
-/
namespace Sys2Proof.Machine

/-- The byte of a one-byte read. -/
theorem Window.get_zero_eq_firstByte (w : Window) (h : 1 ≤ maxRead) : Window.get (n := 1) w h 0 = firstByte w := rfl

theorem length_resetRequests (p : Params) (probes : Nat) : (resetRequests p probes).length = probes + 1 := by
  rw [resetRequests, List.length_cons, List.length_replicate]

theorem length_setupRequests (p : Params) (probes : Nat) : (setupRequests p probes).length = probes + 7 := by
  rw [setupRequests, List.length_cons, List.length_append, length_resetRequests]; rfl

theorem readyAt_take (p : Params) (j : Nat) (ws : List Window) : readyAt p j (ws.take (j + 1)) ↔ readyAt p j ws := by
  constructor
  · exact fun h i w hw hi => h i w (by rwa [List.getElem?_take_of_lt (Nat.lt_succ_of_le hi)]) hi
  · exact fun h i w hw hi => h i w (by rwa [List.getElem?_take_of_lt (Nat.lt_succ_of_le hi)] at hw) hi

theorem readyAt_zero_cons {p : Params} {w : Window} {ws : List Window} (h : readyAt p 0 (w :: ws)) :
    deviceReady p (firstByte w) = true := by simpa using h 0 w rfl le_rfl

theorem readyAt_succ_cons {p : Params} {j : Nat} {w : Window} {ws : List Window} (h : readyAt p (j + 1) (w :: ws)) :
    deviceReady p (firstByte w) = false ∧ readyAt p j ws :=
  ⟨by simpa using h 0 w rfl (Nat.zero_le _), fun i v hv hi => by simpa using h (i + 1) v hv (Nat.succ_le_succ hi)⟩

/-- Fewer probes than j + 1, none of them ready. -/
theorem readyAt_of_neverReady {p : Params} {j : Nat} {ws : List Window} (h : neverReady p ws) (hlen : ws.length ≤ j) :
    readyAt p j ws := by
  intro i w hw _
  obtain ⟨hi, -⟩ := List.getElem?_eq_some_iff.mp hw
  rw [h w (List.mem_of_getElem? hw), decide_eq_false (by omega)]

namespace State.Follows
variable {p : Params} {rs : List BusRequest} {Q : State → State → Prop} {k : State → State}

/-- The probe loop whose probe number j is the first to report ready (R71). -/
theorem pollReady {j n : Nat} {s : State} {ws : List Window} (hs : s.params = p) (hj : j < n) (hready : readyAt p j ws)
    (hk : ∀ u : State, u.params = p → u.Follows rs (ws.drop (j + 1)) Q (k u)) :
    s.Follows (List.replicate (j + 1) (.read p.readyReg 1) ++ rs) ws Q (State.pollReady k n s) := by
  obtain ⟨n, rfl⟩ := Nat.exists_eq_add_one_of_ne_zero (Nat.ne_zero_of_lt hj)
  rw [List.replicate_succ, List.cons_append, State.pollReady, hs]
  refine memRead hs fun w ws' hws u hu => ?_
  subst hws
  rw [hu, Window.get_zero_eq_firstByte]
  cases j with
  | zero =>
    rw [if_pos (readyAt_zero_cons hready)]
    exact hk u hu
  | succ j =>
    obtain ⟨hbusy, hlater⟩ := readyAt_succ_cons hready
    rw [if_neg (ne_true_of_eq_false hbusy)]
    exact pollReady hu (Nat.lt_of_succ_lt_succ hj) hlater hk

theorem resetSeq {j : Nat} {s : State} {ws : List Window} (hs : s.params = p) (hj : j < p.resetPollMax)
    (hready : readyAt p j (ws.drop 1))
    (hk : ∀ u : State, u.params = p → u.Follows rs (ws.drop (j + 2)) Q (k u)) :
    s.Follows (resetRequests p (j + 1) ++ rs) ws Q (s.resetSeq k) := by
  refine memWrite Params.resetMagic hs fun w ws' hws u hu => ?_
  subst hws
  exact pollReady hu (hu ▸ hj) hready hk

end State.Follows

/-- Step 7 of SETUP: the coefficients of the blocks, then Ready, then the response (R72, R74). -/
def State.finishSetup (s : State) (wa wb : Window) : State :=
  ((s.setCal (calDecode s.params.h45Signed12 (Window.get wa (by decide)) (Window.get wb (by decide)))).setInit true).respond .ok

/-- What a SETUP does after its last answer: the blocks are the first two of these answers. -/
def State.FinishedFrom (ws : List Window) (u t : State) : Prop :=
  ∃ wa wb, ws[0]? = some wa ∧ ws[1]? = some wb ∧ t = u.finishSetup wa wb

/-- The requests of a SETUP after `ResetSeq` (R72, steps 4 to 6). -/
def configureRequests (p : Params) : List BusRequest :=
  [.read 0x88#8 26, .read 0xE1#8 7, .write 0xF2#8 p.ctrlHumValue, .write 0xF4#8 p.ctrlMeasValue, .write 0xF5#8 p.configValue]

theorem State.loadAndConfigure_follows {s : State} {p : Params} (hs : s.params = p) (ws : List Window) :
    s.Follows (configureRequests p) ws (State.FinishedFrom ws) s.loadAndConfigure := by
  refine .memRead hs fun wa ws' ha u hu => .memRead hu fun wb ws'' hb u hu => ?_
  subst ha hb
  exact .memWrite Params.ctrlHumValue hu fun _ _ _ _ hu => .memWrite Params.ctrlMeasValue hu fun _ _ _ _ hu =>
    .memWrite Params.configValue hu fun _ _ _ _ _ => .done ⟨wa, wb, rfl, rfl, rfl⟩

theorem State.setup_follows {j : Nat} {s : State} {ws : List Window} (hj : j < s.params.resetPollMax)
    (hid : ∀ w, ws.head? = some w → firstByte w = s.params.chipIdExpected)
    (hready : readyAt s.params j ((ws.drop 2).take (j + 1))) :
    (s.setInit false).Follows (setupRequests s.params (j + 1)) ws (State.FinishedFrom (ws.drop (j + 3))) s.setup := by
  refine .memRead rfl fun w ws' hws u hu => ?_
  subst hws
  rw [readyAt_take] at hready
  rw [hu, State.setInit_params, Window.get_zero_eq_firstByte, if_pos (hid w rfl)]
  exact .resetSeq hu hj hready fun v hv => State.loadAndConfigure_follows hv _

/-- `ResetSeq` runs the rest of its command once the probe that is the first to report ready is answered. -/
theorem State.resetSeq_follows (k : State → State) {j : Nat} {s : State} {ws : List Window} (hj : j < s.params.resetPollMax)
    (hready : readyAt s.params j (ws.drop 1)) :
    s.Follows (resetRequests s.params (j + 1)) ws (fun u t => t = k u) (s.resetSeq k) := by
  rw [← List.append_nil (resetRequests _ _)]
  exact .resetSeq rfl hj hready fun _ _ => .done rfl

/-- A `ResetSeq` stopped by the bus at the reset write, or at a probe after some that reported not ready; the one that fails
may be the last allowed. -/
theorem State.resetSeq_stops (k : State → State) {s : State} {ws : List Window} {e : BusErr} {r : BusRequest}
    (hans : s.answersBegin (ws.map .ok ++ [.error e])) (hnever : neverReady s.params (ws.drop 1))
    (hr : (resetRequests s.params s.params.resetPollMax)[ws.length]? = some r) :
    s.resetSeq k = s.stopped (resetRequests s.params s.params.resetPollMax) ws r e := by
  cases ws with
  | nil =>
    obtain ⟨he, -⟩ := hans
    obtain rfl := Option.some.inj hr
    rw [State.stopped_nil, State.resetSeq, State.memWrite_error he]
    rfl
  | cons w ps =>
    obtain ⟨hlen, -⟩ := List.getElem?_eq_some_iff.mp hr
    rw [length_resetRequests, List.length_cons] at hlen
    obtain ⟨j, hj⟩ := Nat.exists_eq_add_one_of_ne_zero (n := s.params.resetPollMax) (by omega)
    rw [hj] at hr ⊢
    exact (State.resetSeq_follows k (by omega) (readyAt_of_neverReady hnever (by simp; omega))).stops e r hans hr

end Sys2Proof.Machine
end

section
/-!
Proofs of the statements about the course of SETUP and SOFT_RESET.
-/
namespace Sys2Proof.Machine

/-- Settles O10: SETUP follows its requests, and the last of them is answered. -/
theorem setupCompletes : Obligations.SetupCompletes := by
  intro s ws wa wb j hans hlen hj hid hready ha hb
  have hfirst : ∀ w, ws.head? = some w → firstByte w = s.params.chipIdExpected := fun w hw => by simpa [hw] using hid
  obtain ⟨wa', wb', ha', hb', hdone⟩ := (State.setup_follows hj hfirst hready).completes (by simpa using hans)
    (hlen.trans (length_setupRequests _ _).symm)
  rw [List.getElem?_drop] at ha' hb'
  obtain rfl : wa = wa' := Option.some.inj (ha.symm.trans ha')
  obtain rfl : wb = wb' := Option.some.inj (hb.symm.trans hb')
  rw [exec, execSetup, hdone, State.after_setInit, State.after_eq, hlen]
  simp [State.finishSetup, State.setInit, State.setCal, State.respond]

/-- Settles O11: SETUP follows its requests, and stops where one of them fails. -/
theorem setupStopsAtFirstBusError : Obligations.SetupStopsAtFirstBusError := by
  intro s ws e j r hans hj hid hready hr
  rw [exec, execSetup, (State.setup_follows hj hid hready).stops e r (by simpa using hans) hr, State.stopped_setInit,
    State.stopped_eq]
  rfl

/-- Settles O14: SOFT_RESET follows the requests of `ResetSeq`; where a probe fails, fewer than the last went before. -/
theorem softResetCompletesOrStops : Obligations.SoftResetCompletesOrStops := by
  constructor
  · intro s wr ps j hans hlen hj hready
    have hdone := (State.resetSeq_follows (fun u => u.respond .ok) (s := s.setInit false) (ws := wr :: ps) hj hready).completes
      (by simpa using hans) (by simp [length_resetRequests, hlen])
    rw [exec, execSoftReset, hdone, State.after_setInit, State.after_eq, List.length_cons, hlen]
    simp [State.setInit, State.respond]
  · intro s ws e r hans hnever hr
    rw [exec, execSoftReset, State.resetSeq_stops (s := s.setInit false) _ (by simpa using hans) hnever hr,
      State.stopped_setInit, State.stopped_eq]
    rfl

end Sys2Proof.Machine
end

section
/-!
The frame of SETUP and SOFT_RESET: what each of their operations leaves alone (40_setup_calibration.md R72, R73).
-/
namespace Sys2Proof.Machine

/-- `t` comes from `s` with the parameters, the command port, `T_FINE` and the working registers as they were, and after the
earlier transactions. -/
structure State.KeepsForSetup (s t : State) : Prop where
  params : t.params = s.params
  events : t.events = s.events
  tFine : t.tFine = s.tFine
  raw : t.raw = s.raw
  temp : t.temp = s.temp
  press : t.press = s.press
  hum : t.hum = s.hum
  f0 : t.f0 = s.f0
  f1 : t.f1 = s.f1
  history : ∃ evs, t.history = s.history ++ evs

/-- SETUP or SOFT_RESET, begun in `s`, is under way in `u`: Uninitialized, with the old coefficients. -/
structure State.UnderwayFrom (s u : State) : Prop extends s.KeepsForSetup u where
  init : u.init = false
  cal : u.cal = s.cal

/-- SETUP or SOFT_RESET, begun in `s`, has ended in `t`: other coefficients only in the Ready state, and that only by SETUP. -/
structure State.EndedFrom (i : Instr) (s t : State) : Prop extends s.KeepsForSetup t where
  cal : t.init = false → t.cal = s.cal
  softReset : i = .softReset → t.init = false

theorem State.underwayFrom_setInit (s : State) : s.UnderwayFrom (s.setInit false) :=
  ⟨⟨rfl, rfl, rfl, rfl, rfl, rfl, rfl, rfl, rfl, [], (List.append_nil _).symm⟩, rfl, rfl⟩

namespace State.UnderwayFrom
variable {i : Instr} {s u : State}

theorem transaction (h : s.UnderwayFrom u) (e : BusEvent) : s.UnderwayFrom (u.dropAnswer.record e) := by
  obtain ⟨⟨hparams, hevents, htFine, hraw, htemp, hpress, hhum, hf0, hf1, evs, hevs⟩, hinit, hcal⟩ := h
  refine ⟨⟨?_, ?_, ?_, ?_, ?_, ?_, ?_, ?_, ?_, evs ++ [e], ?_⟩, ?_, ?_⟩ <;> simp [*]

/-! Ways to end: an error, the response of SOFT_RESET, the last step of SETUP. -/

theorem respond (h : s.UnderwayFrom u) (r : Response) : s.EndedFrom i (u.respond r) where
  toKeepsForSetup := ⟨h.params, h.events, h.tFine, h.raw, h.temp, h.press, h.hum, h.f0, h.f1, h.history⟩
  cal _ := h.cal
  softReset _ := h.init

theorem raise (h : s.UnderwayFrom u) (k : ErrorKind) : s.EndedFrom i (u.raise k) := h.respond _

theorem configured (h : s.UnderwayFrom u) (c : Calibration) (r : Response) :
    s.EndedFrom .setup (((u.setCal c).setInit true).respond r) where
  toKeepsForSetup := ⟨h.params, h.events, h.tFine, h.raw, h.temp, h.press, h.hum, h.f0, h.f1, h.history⟩
  cal hinit := by cases hinit
  softReset hi := by cases hi

/-! The operations that can raise: the rest of the command ends so, or the error does. -/

theorem memRead (h : s.UnderwayFrom u) {addr : Byte} {n : Nat} {hn : n ≤ maxRead} {k : (Fin n → Byte) → State → State}
    (hk : ∀ b v, s.UnderwayFrom v → s.EndedFrom i (k b v)) : s.EndedFrom i (u.memRead addr n hn k) :=
  State.memRead_induct (fun _ _ => hk _ _ (h.transaction _)) fun _ _ => (h.transaction _).raise _

theorem memWrite (h : s.UnderwayFrom u) {addr v : Byte} {k : State → State}
    (hk : ∀ v, s.UnderwayFrom v → s.EndedFrom i (k v)) : s.EndedFrom i (u.memWrite addr v k) :=
  State.memWrite_induct (fun _ _ => hk _ (h.transaction _)) fun _ _ => (h.transaction _).raise _

theorem resetSeq (h : s.UnderwayFrom u) {k : State → State} (hk : ∀ v, s.UnderwayFrom v → s.EndedFrom i (k v)) :
    s.EndedFrom i (u.resetSeq k) :=
  h.memWrite fun _ h => State.pollReady_induct (fun _ _ h _ => h.transaction _) hk
    (fun _ _ h _ => (h.transaction _).raise _) (fun _ h => h.raise _) _ _ h

theorem loadAndConfigure (h : s.UnderwayFrom u) : s.EndedFrom .setup u.loadAndConfigure :=
  h.memRead fun _ _ h => h.memRead fun _ _ h =>
    h.memWrite fun _ h => h.memWrite fun _ h => h.memWrite fun _ h => h.configured _ _

end State.UnderwayFrom

theorem State.setup_endedFrom (s : State) : s.EndedFrom .setup s.setup := by
  refine s.underwayFrom_setInit.memRead fun id u h => ?_
  split
  · exact h.resetSeq fun _ h => h.loadAndConfigure
  · exact h.raise _

theorem State.softReset_endedFrom (s : State) :
    s.EndedFrom .softReset ((s.setInit false).resetSeq fun u => u.respond .ok) :=
  s.underwayFrom_setInit.resetSeq fun _ h => h.respond _

theorem exec_endedFrom {i : Instr} {s t : State} (hi : i = .setup ∨ i = .softReset) (h : exec i s = .next t) :
    s.EndedFrom i t := by
  obtain rfl | rfl := hi
  · cases h; exact s.setup_endedFrom
  · cases h; exact s.softReset_endedFrom

/-- Settles O15: every operation of the two commands keeps the frame; the response is O50's. -/
theorem setupAndSoftResetFrame : Obligations.SetupAndSoftResetFrame := by
  intro i s t hi h
  obtain ⟨⟨hparams, hevents, htFine, hraw, htemp, hpress, hhum, hf0, hf1, hhistory⟩, hcal, hsoft⟩ := exec_endedFrom hi h
  obtain ⟨t', hexec, r, hresponses, -⟩ := exec_answeredOnce i s
  cases h.symm.trans hexec
  exact ⟨hparams, hevents, htFine, hraw, htemp, hpress, hhum, hf0, hf1, hcal, hsoft, hhistory, r, hresponses⟩

end Sys2Proof.Machine
end

section
/-!
The calibration decode read as integers (40_setup_calibration.md R77 to R79).
-/
namespace Sys2Proof.Machine

/-! Two bytes, little-endian (R77). -/

theorem toNat_le16 (lo hi : Byte) : (le16 lo hi).toNat = hi.toNat * 256 + lo.toNat := by
  rw [le16, BitVec.toNat_append, ← Nat.shiftLeft_add_eq_or_of_lt lo.isLt, Nat.shiftLeft_eq]

theorem natCast_toNat_le16 (lo hi : Byte) : ((le16 lo hi).toNat : Int) = hi.toNat * 256 + lo.toNat :=
  mod_cast toNat_le16 lo hi

/-- One signed byte. -/
theorem toInt_byte (b : Byte) : b.toInt = if b.toNat < 128 then (b.toNat : Int) else b.toNat - 256 := by
  rw [BitVec.toInt_eq_toNat_cond]
  split <;> split <;> omega

theorem toInt_le16 (lo hi : Byte) : (le16 lo hi).toInt =
    if hi.toNat < 128 then (hi.toNat * 256 + lo.toNat : Int) else hi.toNat * 256 + lo.toNat - 65536 := by
  rw [BitVec.toInt_eq_toNat_cond, toNat_le16]
  have := lo.isLt
  split <;> split <;> omega

/-! Twelve bits: a byte above a nibble, in a 16-bit container under either setting (R79). -/

theorem toNat_byte_nibble (hi : Byte) {low : BitVec 12} (hlow : low.toNat < 16) :
    ((hi.setWidth 12 <<< 4) ||| low).toNat = hi.toNat * 16 + low.toNat := by
  have hwidth : (hi.setWidth 12 <<< 4).toNat = hi.toNat <<< 4 := by
    rw [BitVec.toNat_shiftLeft, BitVec.toNat_setWidth_of_le (by decide), Nat.shiftLeft_eq, Nat.mod_eq_of_lt (by omega)]
  rw [BitVec.toNat_or, hwidth, ← Nat.shiftLeft_add_eq_or_of_lt hlow, Nat.shiftLeft_eq]

theorem toNat_lowNibble (b : Byte) : (b.setWidth 12 &&& 0x00F#12).toNat = b.toNat % 16 := by
  rw [BitVec.toNat_and, BitVec.toNat_setWidth_of_le (by decide)]
  exact Nat.and_two_pow_sub_one_eq_mod b.toNat 4

theorem toNat_highNibble (b : Byte) : (b.setWidth 12 >>> 4).toNat = b.toNat / 16 := by
  rw [BitVec.toNat_ushiftRight, BitVec.toNat_setWidth_of_le (by decide), Nat.shiftRight_eq_div_pow]

theorem toInt_packed12_unset (v : BitVec 12) : (packed12 false v).toInt = v.toNat := toInt_setWidth_of_lt v (by decide)

theorem toInt_packed12_set (v : BitVec 12) :
    (packed12 true v).toInt = if 2048 ≤ (v.toNat : Int) then (v.toNat : Int) - 4096 else v.toNat := by
  have hext : (packed12 true v).toInt = v.toInt := BitVec.toInt_signExtend_of_le (by decide)
  rw [hext, BitVec.toInt_eq_toNat_cond]
  split <;> split <;> omega

theorem packed12_ne_iff (v : BitVec 12) : packed12 false v ≠ packed12 true v ↔ 2048 ≤ v.toNat := by
  rw [ne_eq, ← BitVec.toInt_inj, toInt_packed12_unset, toInt_packed12_set]
  split <;> omega

/-- The chain shifts the bits in which the settings differ out of the register (44_humidity.md R126). -/
theorem packed12_shiftLeft_congr (g g' : Bool) (v : BitVec 12) :
    (packed12 g v).signExtend 32 <<< 20 = (packed12 g' v).signExtend 32 <<< 20 := by
  have hbits : ∀ g, (packed12 g v).signExtend 32 <<< 20 = v.setWidth 32 <<< 20 := by
    intro g
    refine BitVec.eq_of_getLsbD_eq fun i hi => ?_
    have h12 : i - 20 < 12 := by omega
    have h16 : i - 20 < 16 := by omega
    cases g <;> simp [packed12, BitVec.getLsbD_signExtend, BitVec.getElem_signExtend, h12, h16]
  rw [hbits, hbits]

/-! The two coefficients of the decode. -/

/-- The twelve bits of `H4`: B[3] above the low nibble of B[4] (R79). -/
def h4Bits (b : Fin 7 → Byte) : BitVec 12 := ((b 3).setWidth 12 <<< 4) ||| ((b 4).setWidth 12 &&& 0x00F#12)

/-- The twelve bits of `H5`: B[5] above the high nibble of B[4] (R79). -/
def h5Bits (b : Fin 7 → Byte) : BitVec 12 := ((b 5).setWidth 12 <<< 4) ||| ((b 4).setWidth 12 >>> 4)

theorem toNat_h4Bits (b : Fin 7 → Byte) : (h4Bits b).toNat = (b 3).toNat * 16 + (b 4).toNat % 16 := by
  rw [h4Bits, toNat_byte_nibble _ (by rw [toNat_lowNibble]; omega), toNat_lowNibble]

theorem toNat_h5Bits (b : Fin 7 → Byte) : (h5Bits b).toNat = (b 5).toNat * 16 + (b 4).toNat / 16 := by
  rw [h5Bits, toNat_byte_nibble _ (by rw [toNat_highNibble]; omega), toNat_highNibble]

theorem calDecode_h4 (g : Bool) (a : Fin 26 → Byte) (b : Fin 7 → Byte) : (calDecode g a b).h4 = packed12 g (h4Bits b) := rfl
theorem calDecode_h5 (g : Bool) (a : Fin 26 → Byte) (b : Fin 7 → Byte) : (calDecode g a b).h5 = packed12 g (h5Bits b) := rfl

/-- The settings of H45_SIGNED12 differ in `H4` and `H5` alone. -/
theorem calDecode_setting_congr_iff (g g' : Bool) (a : Fin 26 → Byte) (b : Fin 7 → Byte) :
    calDecode g a b = calDecode g' a b ↔
      packed12 g (h4Bits b) = packed12 g' (h4Bits b) ∧ packed12 g (h5Bits b) = packed12 g' (h5Bits b) := by
  simp only [calDecode, Calibration.mk.injEq, true_and, and_true]
  rfl

/-- `H4` enters the chain shifted left by 20 alone. -/
theorem humChain_h4_congr {h h' : BitVec 16} (heq : h.signExtend 32 <<< 20 = h'.signExtend 32 <<< 20) (adc t : BitVec 32)
    (c : Calibration) : humChain adc t { c with h4 := h } = humChain adc t { c with h4 := h' } := by
  simp only [humChain, humA, heq]

end Sys2Proof.Machine
end

section
/-!
Proofs of the statements about the calibration decode.
-/
namespace Sys2Proof.Machine

/-- Settles O16: each is two bytes, little-endian. -/
theorem temperatureAndPressureCoefficients : Obligations.TemperatureAndPressureCoefficients := fun _ _ _ =>
  ⟨natCast_toNat_le16 _ _, toInt_le16 _ _, toInt_le16 _ _, natCast_toNat_le16 _ _, toInt_le16 _ _, toInt_le16 _ _,
    toInt_le16 _ _, toInt_le16 _ _, toInt_le16 _ _, toInt_le16 _ _, toInt_le16 _ _, toInt_le16 _ _⟩

/-- Settles O17: `H2` is two bytes, little-endian, the others one. -/
theorem plainHumidityCoefficients : Obligations.PlainHumidityCoefficients := fun _ _ _ =>
  ⟨rfl, rfl, toInt_le16 _ _, toInt_byte _⟩

/-- Settles O18: each coefficient is its twelve bits, extended; with 0x80 in B[5], `H5` is 2048 or -2048, and that tells. -/
theorem packedHumidityCoefficients : Obligations.PackedHumidityCoefficients := by
  refine ⟨fun a b => ⟨?_, ?_, ?_, ?_, ?_, humChain_h4_congr (packed12_shiftLeft_congr _ _ _)⟩, ?_⟩
  · rw [calDecode_h4, toInt_packed12_unset, toNat_h4Bits]; norm_cast
  · rw [calDecode_h5, toInt_packed12_unset, toNat_h5Bits]; norm_cast
  · rw [calDecode_h4, toInt_packed12_set, toNat_h4Bits]; norm_cast
  · rw [calDecode_h5, toInt_packed12_set, toNat_h5Bits]; norm_cast
  · rw [ne_eq, calDecode_setting_congr_iff, not_and_or, ← ne_eq, ← ne_eq, packed12_ne_iff, packed12_ne_iff, toNat_h4Bits,
      toNat_h5Bits]
    omega
  · exact ⟨fun _ => 0#8, fun i => if i = 5 then 0x80#8 else 0#8, 10000#32, 128422#32,
      { (default : Calibration) with h2 := 367#16 }, by decide +kernel⟩

/-- Settles O19: the two blocks agree at every element the decode reads. -/
theorem calDecodeIgnoresRegisterA0 : Obligations.CalDecodeIgnoresRegisterA0 := by
  intro g a a' b h
  simp [calDecode, h]

end Sys2Proof.Machine
end

section
/-!
The sample unpacker and the answered fetches (41_sample_unpack.md R90 to R92).
-/
namespace Sys2Proof.Machine

/-! The unpacked samples as numbers. -/

/-- A term shifted above the bits of another, nothing lost at the top: `|` is `+`. -/
theorem toNat_shiftLeft_or {w n : Nat} {hi low : BitVec w} (hhi : hi.toNat * 2 ^ n < 2 ^ w) (hlow : low.toNat < 2 ^ n) :
    ((hi <<< n) ||| low).toNat = hi.toNat * 2 ^ n + low.toNat := by
  rw [BitVec.toNat_or, BitVec.toNat_shiftLeft, Nat.shiftLeft_eq, Nat.mod_eq_of_lt hhi, ← Nat.shiftLeft_eq,
    Nat.shiftLeft_add_eq_or_of_lt hlow]

theorem toNat_setWidth_byte (b : Byte) : (b.setWidth 32).toNat = b.toNat := BitVec.toNat_setWidth_of_le (by decide)

theorem toNat_unpack16 (b : Fin 2 → Byte) : (unpack16 b).toNat = (b 0).toNat * 256 + (b 1).toNat := by
  have h0 := toNat_setWidth_byte (b 0)
  have h1 := toNat_setWidth_byte (b 1)
  rw [unpack16, toNat_shiftLeft_or (by omega) (by omega), h0, h1, show 2 ^ 8 = 256 from rfl]

theorem toNat_unpack20 (b : Fin 3 → Byte) :
    (unpack20 b).toNat = (b 0).toNat * 2 ^ 12 + (b 1).toNat * 2 ^ 4 + (b 2).toNat / 2 ^ 4 := by
  have h0 := toNat_setWidth_byte (b 0)
  have h1 := toNat_setWidth_byte (b 1)
  have h2 : ((b 2).setWidth 32 >>> 4).toNat = (b 2).toNat / 2 ^ 4 := by
    rw [BitVec.toNat_ushiftRight, toNat_setWidth_byte, Nat.shiftRight_eq_div_pow]
  have hlow : (((b 1).setWidth 32 <<< 4) ||| ((b 2).setWidth 32 >>> 4)).toNat = (b 1).toNat * 2 ^ 4 + (b 2).toNat / 2 ^ 4 := by
    rw [toNat_shiftLeft_or (by omega) (by omega), h1, h2]
  rw [unpack20, BitVec.or_assoc, toNat_shiftLeft_or (by omega) (by omega), h0, hlow, Nat.add_assoc]

/-! A fetch whose read is answered goes on from the state that holds the sample (R92). -/

theorem State.sampled_eq (s : State) (addr : Byte) (bytes : List Byte) (raw : BitVec 32) :
    s.sampled addr bytes raw = { s.dropAnswer with raw := raw, history := s.history ++ [.read addr bytes] } := by
  simp [State.sampled, State.setRaw, State.record]

theorem State.fetchT_ok {s : State} {w : Window} (hw : s.nextAnswer = .ok w) (k : State → State) :
    s.fetchT k = k (s.sampled regTempData (w.val.take 3) (unpack20 (Window.get w (by decide)))) := State.memRead_ok hw

theorem State.fetchP_ok {s : State} {w : Window} (hw : s.nextAnswer = .ok w) (k : State → State) :
    s.fetchP k = k (s.sampled regPressureData (w.val.take 3) (unpack20 (Window.get w (by decide)))) := State.memRead_ok hw

theorem State.fetchH_ok {s : State} {w : Window} (hw : s.nextAnswer = .ok w) (k : State → State) :
    s.fetchH k = k (s.sampled regHumidData (w.val.take 2) (unpack16 (Window.get w (by decide)))) := State.memRead_ok hw

end Sys2Proof.Machine
end

section
/-!
Proofs of the statements about the sample unpacker.
-/
namespace Sys2Proof.Machine

/-- Settles O20: range and discarded nibble follow from the sample's value, in which b[2] stands divided by 16. -/
theorem twentyBitSample : Obligations.TwentyBitSample := by
  intro b
  have hvalue := toNat_unpack20 b
  refine ⟨hvalue, by omega, fun b' h0 h1 h2 => ?_, ?_⟩
  · apply BitVec.eq_of_toNat_eq
    rw [hvalue, toNat_unpack20, h0, h1]
    omega
  · rintro s k w hw rfl
    exact ⟨(State.fetchT_ok hw k).trans (congrArg k (s.sampled_eq _ _ _)),
      (State.fetchP_ok hw k).trans (congrArg k (s.sampled_eq _ _ _))⟩

/-- Settles O21: the range follows from the sample's value. -/
theorem sixteenBitSample : Obligations.SixteenBitSample := by
  intro b
  have hvalue := toNat_unpack16 b
  refine ⟨hvalue, by omega, ?_⟩
  rintro s k w hw rfl
  exact (State.fetchH_ok hw k).trans (congrArg k (s.sampled_eq _ _ _))

end Sys2Proof.Machine
end

section
/-!
SUPPORT. The temperature chain read as integers, one lemma per step of 42_temperature.md R100: on a 20-bit sample every step
is the unbounded one and lies in the range printed beside it, so none leaves its register (R102).
-/
namespace Sys2Proof
open Sys2Proof.Machine (fits)

/-- A register written to a narrower one that holds its value. -/
theorem toInt_setWidth_of_fits {w v : Nat} {x : BitVec w} {a : Int} (hx : x.toInt = a) (hle : v ≤ w) (h : fits v a)
    (hv : 0 < v := by decide) : (x.setWidth v).toInt = a := by
  rw [BitVec.toInt_setWidth, ← Int.bmod_bmod_of_dvd (pow_dvd_pow 2 hle), ← BitVec.toInt_eq_toNat_bmod, hx,
    bmod_eq_self_of_fits hv h]

/-- A product with one factor in an interval lies between its values at the interval's ends. -/
theorem min_le_mul_le_max {lo hi x : Int} (hlo : lo ≤ x) (hhi : x ≤ hi) (y : Int) :
    min (lo * y) (hi * y) ≤ x * y ∧ x * y ≤ max (lo * y) (hi * y) := by
  rcases le_total 0 y with hy | hy
  · exact ⟨min_le_of_left_le (mul_le_mul_of_nonneg_right hlo hy), le_max_of_le_right (mul_le_mul_of_nonneg_right hhi hy)⟩
  · exact ⟨min_le_of_right_le (mul_le_mul_of_nonpos_right hhi hy), le_max_of_le_left (mul_le_mul_of_nonpos_right hlo hy)⟩

end Sys2Proof

namespace Sys2Proof.Machine

section Steps
variable {adc : BitVec 32} (hadc : adc.toNat < 2 ^ 20) (t1 t2 t3 : BitVec 16)
include hadc

theorem tempChain_ta : (tempChain adc t1 t2 t3).ta.toInt = (adc.toNat : Int) / 2 ^ 3 - t1.toNat * 2 ∧
    -131070 ≤ (tempChain adc t1 t2 t3).ta.toInt ∧ (tempChain adc t1 t2 t3).ta.toInt ≤ 131071 := by
  have ht1 := t1.isLt
  have hvalue : (tempChain adc t1 t2 t3).ta.toInt = (adc.toNat : Int) / 2 ^ 3 - t1.toNat * 2 :=
    toInt_sub_of_fits (toInt_asr_of_eq (toInt_setWidth_of_lt adc (by decide)))
      (toInt_shiftLeft_of_fits (n := 1) (toInt_setWidth_of_lt t1 (by decide)) (by constructor <;> omega))
      (by constructor <;> omega)
  omega

theorem tempChain_tv1 :
    (tempChain adc t1 t2 t3).tv1.toInt = (tempChain adc t1 t2 t3).ta.toInt * t2.toInt / 2 ^ 11 ∧
    -2097136 ≤ (tempChain adc t1 t2 t3).tv1.toInt ∧ (tempChain adc t1 t2 t3).tv1.toInt ≤ 2097120 := by
  obtain ⟨-, hlo, hhi⟩ := tempChain_ta hadc t1 t2 t3
  obtain ⟨hmin, hmax⟩ := fits_toInt t2
  have hprod := min_le_mul_le_max hlo hhi t2.toInt
  have hvalue : (tempChain adc t1 t2 t3).tv1.toInt = (tempChain adc t1 t2 t3).ta.toInt * t2.toInt / 2 ^ 11 :=
    toInt_asr_of_eq (toInt_mul_of_fits rfl (BitVec.toInt_signExtend_of_le (by decide)) (by constructor <;> omega))
  omega

theorem tempChain_tb : (tempChain adc t1 t2 t3).tb.toInt = (adc.toNat : Int) / 2 ^ 4 - t1.toNat ∧
    -65535 ≤ (tempChain adc t1 t2 t3).tb.toInt ∧ (tempChain adc t1 t2 t3).tb.toInt ≤ 65535 := by
  have ht1 := t1.isLt
  have hvalue : (tempChain adc t1 t2 t3).tb.toInt = (adc.toNat : Int) / 2 ^ 4 - t1.toNat :=
    toInt_sub_of_fits (toInt_asr_of_eq (toInt_setWidth_of_lt adc (by decide))) (toInt_setWidth_of_lt t1 (by decide))
      (by constructor <;> omega)
  omega

theorem tempChain_tsq :
    (tempChain adc t1 t2 t3).tsq.toInt = (tempChain adc t1 t2 t3).tb.toInt * (tempChain adc t1 t2 t3).tb.toInt / 2 ^ 12 ∧
    0 ≤ (tempChain adc t1 t2 t3).tsq.toInt ∧ (tempChain adc t1 t2 t3).tsq.toInt ≤ 1048544 := by
  obtain ⟨-, hlo, hhi⟩ := tempChain_tb hadc t1 t2 t3
  have hprod := min_le_mul_le_max hlo hhi (tempChain adc t1 t2 t3).tb.toInt
  have hnonneg := mul_self_nonneg (tempChain adc t1 t2 t3).tb.toInt
  have hvalue : (tempChain adc t1 t2 t3).tsq.toInt =
      (tempChain adc t1 t2 t3).tb.toInt * (tempChain adc t1 t2 t3).tb.toInt / 2 ^ 12 :=
    toInt_asr_of_eq (toInt_mul_of_fits rfl rfl (by constructor <;> omega))
  omega

theorem tempChain_tv2 :
    (tempChain adc t1 t2 t3).tv2.toInt = (tempChain adc t1 t2 t3).tsq.toInt * t3.toInt / 2 ^ 14 ∧
    -2097088 ≤ (tempChain adc t1 t2 t3).tv2.toInt ∧ (tempChain adc t1 t2 t3).tv2.toInt ≤ 2097024 := by
  obtain ⟨-, hlo, hhi⟩ := tempChain_tsq hadc t1 t2 t3
  obtain ⟨hmin, hmax⟩ := fits_toInt t3
  have hprod := min_le_mul_le_max hlo hhi t3.toInt
  have hvalue : (tempChain adc t1 t2 t3).tv2.toInt = (tempChain adc t1 t2 t3).tsq.toInt * t3.toInt / 2 ^ 14 :=
    toInt_asr_of_eq (toInt_mul_of_fits rfl (BitVec.toInt_signExtend_of_le (by decide)) (by constructor <;> omega))
  omega

theorem tempChain_fine : (tempChain adc t1 t2 t3).fine.toInt =
      (tempChain adc t1 t2 t3).tv1.toInt + (tempChain adc t1 t2 t3).tv2.toInt ∧
    -4194224 ≤ (tempChain adc t1 t2 t3).fine.toInt ∧ (tempChain adc t1 t2 t3).fine.toInt ≤ 4194144 := by
  obtain ⟨-, hlo1, hhi1⟩ := tempChain_tv1 hadc t1 t2 t3
  obtain ⟨-, hlo2, hhi2⟩ := tempChain_tv2 hadc t1 t2 t3
  have hvalue : (tempChain adc t1 t2 t3).fine.toInt =
      (tempChain adc t1 t2 t3).tv1.toInt + (tempChain adc t1 t2 t3).tv2.toInt :=
    toInt_setWidth_of_fits (toInt_add_of_fits rfl rfl (by constructor <;> omega)) (by decide) (by constructor <;> omega)
  omega

theorem toInt_tempChain_fine :
    (tempChain adc t1 t2 t3).fine.toInt = exactTemp adc.toNat t1.toNat t2.toInt t3.toInt := by
  rw [(tempChain_fine hadc t1 t2 t3).1, (tempChain_tv1 hadc t1 t2 t3).1, (tempChain_tv2 hadc t1 t2 t3).1,
    (tempChain_tsq hadc t1 t2 t3).1, (tempChain_ta hadc t1 t2 t3).1, (tempChain_tb hadc t1 t2 t3).1, exactTemp]

end Steps

theorem toInt_compT {adc : BitVec 32} (hadc : adc.toNat < 2 ^ 20) (c : Calibration) :
    (compT adc c).toInt = exactTemp adc.toNat c.t1.toNat c.t2.toInt c.t3.toInt := toInt_tempChain_fine hadc _ _ _

/-! The chain with the example coefficients, as a function of the sample (R104). -/

/-- `CompT` in unbounded integers with the example coefficients T1, T2, T3 of R104. -/
def exampleTemp (adc : Nat) : Int := exactTemp adc 27504 26435 (-1000)

theorem toInt_compT_example {c : Calibration} (h1 : c.t1 = 27504#16) (h2 : c.t2 = 26435#16)
    (h3 : c.t3 = BitVec.ofInt 16 (-1000)) {adc : BitVec 32} (hadc : adc.toNat < 2 ^ 20) :
    (compT adc c).toInt = exampleTemp adc.toNat := by
  rw [toInt_compT hadc, h1, h2, h3]
  rfl

/-- One step of the sample's upper 17 bits adds at least 12 to `TV1`, and takes at most 2 off `TV2`: over the samples two
values of `TB` have squares at most 76062 times their distance apart. -/
theorem exampleTemp_mono {a b : Nat} (hab : a ≤ b) (hb : b < 2 ^ 20) : exampleTemp a ≤ exampleTemp b := by
  have hsq : ((b : Int) / 2 ^ 4 - 27504) * ((b : Int) / 2 ^ 4 - 27504) ≤
      ((a : Int) / 2 ^ 4 - 27504) * ((a : Int) / 2 ^ 4 - 27504) + 76062 * ((b : Int) / 2 ^ 4 - (a : Int) / 2 ^ 4) := by
    have hstep : 0 ≤ (b : Int) / 2 ^ 4 - (a : Int) / 2 ^ 4 := by omega
    have hsum : 0 ≤ 76062 - ((b : Int) / 2 ^ 4 - 27504 + ((a : Int) / 2 ^ 4 - 27504)) := by omega
    linarith [mul_nonneg hstep hsum]
  unfold exampleTemp exactTemp
  by_cases hsame : (a : Int) / 2 ^ 3 = (b : Int) / 2 ^ 3
  · have hsame4 : (a : Int) / 2 ^ 4 = (b : Int) / 2 ^ 4 := by omega
    rw [hsame, hsame4]
  · omega

theorem exampleTemp_inRange_iff {a : Nat} (ha : a < 2 ^ 20) :
    (-40 * 5120 ≤ exampleTemp a ∧ exampleTemp a ≤ 85 * 5120) ↔ 313712 ≤ a ∧ a ≤ 712479 := by
  have hbelow : exampleTemp 313711 < -40 * 5120 := by decide
  have hlow : -40 * 5120 ≤ exampleTemp 313712 := by decide
  have hhigh : exampleTemp 712479 ≤ 85 * 5120 := by decide
  have habove : 85 * 5120 < exampleTemp 712480 := by decide
  constructor
  · rintro ⟨hlo, hhi⟩
    constructor
    · by_contra! h
      exact absurd (exampleTemp_mono (Nat.le_of_lt_succ h) (by decide)) (by omega)
    · by_contra! h
      exact absurd (exampleTemp_mono (a := 712480) h ha) (by omega)
  · rintro ⟨hlo, hhi⟩
    exact ⟨hlow.trans (exampleTemp_mono hlo ha), (exampleTemp_mono hhi (by decide)).trans hhigh⟩

end Sys2Proof.Machine
end

section
/-!
SUPPORT. Division of one exact integer by another: FLT rounds the quotient once (00_scope.md R13).
-/
namespace Sys2Proof.Flt

theorem roundHalfEven_mul_right (n d : Nat) {c : Nat} (hc : 0 < c) : roundHalfEven (n * c) (d * c) = roundHalfEven n d := by
  have hup : d * c < 2 * (n % d * c) ↔ d < 2 * (n % d) := by rw [← mul_assoc, Nat.mul_lt_mul_right hc]
  have htie : 2 * (n % d * c) = d * c ↔ 2 * (n % d) = d := by rw [← mul_assoc, Nat.mul_left_inj hc.ne']
  simp only [roundHalfEven, Nat.mul_div_mul_right n d hc, Nat.mul_mod_mul_right, hup, htie]

/-- Only the quotient counts. -/
theorem round_mul_right (neg : Bool) (num den : Nat) {c : Nat} (hc : 0 < c) : round neg (num * c) (den * c) = round neg num den := by
  simp only [round, roundMag, Nat.mul_right_comm _ c, Nat.mul_div_mul_right _ _ hc, roundHalfEven_mul_right _ _ hc]

theorem fdiv_fin_fin (a b : Bool) (x : Fin 9218868437227405312) {y : Fin 9218868437227405312} (hy : y.val ≠ 0) :
    fdiv (.fin a x) (.fin b y) = round (a ^^ b) (units x.val) (units y.val) := if_neg hy

end Sys2Proof.Flt

namespace Sys2Proof.Machine

/-- Both integers convert exactly, so the one rounding is the division's. -/
theorem fdiv_ofInt_ofInt {v d : Int} (hv : v.natAbs ≤ 2 ^ 53) (hd : d.natAbs ≤ 2 ^ 53) (hne : d ≠ 0) :
    Flt.fdiv (Flt.ofInt v) (Flt.ofInt d) = Flt.round (decide (v < 0) ^^ decide (d < 0)) v.natAbs d.natAbs := by
  obtain ⟨m, hm, hmUnits⟩ := integersConvertExactly v hv
  obtain ⟨k, hk, hkUnits⟩ := integersConvertExactly d hd
  have hk0 : k.val ≠ 0 := by
    intro h0
    rw [h0, Flt.units_zero] at hkUnits
    exact absurd hkUnits.symm (Nat.mul_ne_zero (Int.natAbs_ne_zero.mpr hne) Flt.scale_pos.ne')
  rw [hm, hk, Flt.fdiv_fin_fin _ _ _ hk0, hmUnits, hkUnits, Flt.round_mul_right _ _ _ Flt.scale_pos]

end Sys2Proof.Machine
end

section
/-!
The two ends of `TempRead` as equations (42_temperature.md R103).
-/
namespace Sys2Proof.Machine

theorem State.tempRead_ok {s : State} {w : Window} (hw : s.nextAnswer = .ok w) (k : State → State) :
    s.tempRead k = k (s.sampled regTempData (w.val.take 3) (unpack20 (Window.get w (by decide)))).fineTemp :=
  State.fetchT_ok hw _

theorem State.tempRead_error {s : State} {e : BusErr} (he : s.nextAnswer = .error e) (k : State → State) :
    s.tempRead k = (s.dropAnswer.record (.readFailed regTempData 3 e)).raise (.busError e) := by
  rw [State.tempRead, State.fetchT, State.memRead_error he]

theorem State.sampled_fineTemp_eq (s : State) (addr : Byte) (bytes : List Byte) (raw : BitVec 32) :
    (s.sampled addr bytes raw).fineTemp = { s.dropAnswer with
      raw := raw, temp := tempChain raw s.cal.t1 s.cal.t2 s.cal.t3, tFine := compT raw s.cal
      history := s.history ++ [.read addr bytes] } := by
  simp [State.sampled_eq, State.fineTemp, State.setTemp, State.setTFine]

theorem State.failed_eq (s : State) (addr : Byte) (n : Nat) (e : BusErr) :
    (s.dropAnswer.record (.readFailed addr n e)).raise (.busError e) = { s.dropAnswer with
      history := s.history ++ [.readFailed addr n e], responses := s.responses ++ [.err (.busError e)] } := by
  simp [State.record, State.raise, State.respond]

end Sys2Proof.Machine
end

section
/-!
Proofs of the statements about the temperature chain and READ_TEMPERATURE.
-/
namespace Sys2Proof.Machine

/-- Settles O24: each register by its own lemma; the ends of the result's range by running the model. -/
theorem temperatureChainIsExact : Obligations.TemperatureChainIsExact := by
  refine ⟨fun adc t1 t2 t3 hadc => ?_, by decide, by decide⟩
  obtain ⟨hta, htaRange⟩ := tempChain_ta hadc t1 t2 t3
  obtain ⟨htv1, htv1Range⟩ := tempChain_tv1 hadc t1 t2 t3
  obtain ⟨htb, htbRange⟩ := tempChain_tb hadc t1 t2 t3
  obtain ⟨htsq, htsqRange⟩ := tempChain_tsq hadc t1 t2 t3
  obtain ⟨htv2, htv2Range⟩ := tempChain_tv2 hadc t1 t2 t3
  obtain ⟨hfine, hfineRange⟩ := tempChain_fine hadc t1 t2 t3
  exact ⟨hta, htv1, htb, htsq, htv2, hfine, htaRange, htv1Range, htbRange, htsqRange, htv2Range,
    toInt_tempChain_fine hadc t1 t2 t3, hfineRange⟩

/-- Settles O25: `t` and 5120 are exact, so the division rounds alone. -/
theorem celsiusIsRoundedOnce : Obligations.CelsiusIsRoundedOnce := by
  intro t
  obtain ⟨hlo, hhi⟩ := fits_toInt t
  rw [toCelsius, Flt.c5120, fdiv_ofInt_ofInt (by omega) (by decide) (by decide)]
  simp

/-- Settles O26: on a 20-bit sample `CompT` is its unbounded value. -/
theorem exampleTemperatureIsMonotone : Obligations.ExampleTemperatureIsMonotone := by
  intro c h1 h2 h3
  constructor
  · intro a b hab hb
    rw [toInt_compT_example h1 h2 h3 (hab.trans_lt hb), toInt_compT_example h1 h2 h3 hb]
    exact exampleTemp_mono hab hb
  · intro a ha
    rw [toInt_compT_example h1 h2 h3 ha]
    exact exampleTemp_inRange_iff ha

/-- Settles O23: the flag, then the answer to the one read, decide the case. -/
theorem readTemperatureResult : Obligations.ReadTemperatureResult := by
  refine ⟨fun arg => (decode_append_eq_ok_iff _ _ _).mpr (by simp [Instr.opcode]), fun s h => ?_, fun s e h hans => ?_,
    fun s w h hans => ?_⟩
  · rw [exec, execReadTemperature, State.requireReady_uninitialized h]
    rfl
  · rw [exec, execReadTemperature, State.requireReady_ready h, State.tempRead_error hans.1, State.failed_eq]
    rfl
  · rw [exec, execReadTemperature, State.requireReady_ready h, State.tempRead_ok hans.1, State.sampled_fineTemp_eq]
    simp [State.respond, State.dropAnswers, regTempData]

end Sys2Proof.Machine
end

section
/-!
The frame of the measurement commands: what each of their operations leaves alone (41_sample_unpack.md R92,
42_temperature.md R103, 43_pressure.md R118, 44_humidity.md R130, 45_altitude.md R142).
-/
namespace Sys2Proof.Machine

/-- The measurement command `i`, begun in `s`, has come to `u` by at most `n` sample fetches: the parameters, `INIT`,
`CAL` and the command port are as they were, and so are the working registers that `i` does not write. -/
structure State.MeasuredFrom (s : State) (i : Instr) (n : Nat) (u : State) : Prop where
  params : u.params = s.params
  init : u.init = s.init
  cal : u.cal = s.cal
  events : u.events = s.events
  history : ∃ evs, u.history = s.history ++ evs ∧ evs.length ≤ n ∧ ∀ e ∈ evs, sampleFetch e = true
  press : i = .readTemperature ∨ i = .readHumidity → u.press = s.press
  hum : i ≠ .readHumidity → u.hum = s.hum
  f0 : i = .readTemperature ∨ i = .readPressure → u.f0 = s.f0
  f1 : (∀ arg, i ≠ .readAltitude arg) → u.f1 = s.f1

theorem State.measuredFrom_self (s : State) (i : Instr) : s.MeasuredFrom i 0 s where
  params := rfl
  init := rfl
  cal := rfl
  events := rfl
  history := ⟨[], (List.append_nil _).symm, le_rfl, by simp⟩
  press _ := rfl
  hum _ := rfl
  f0 _ := rfl
  f1 _ := rfl

namespace State.MeasuredFrom
variable {s u : State} {i : Instr} {n m : Nat}

theorem mono (h : s.MeasuredFrom i n u) (hnm : n ≤ m) : s.MeasuredFrom i m u :=
  { h with history := h.history.imp fun _ ⟨hevs, hlen, hsample⟩ => ⟨hevs, hlen.trans hnm, hsample⟩ }

theorem transaction (h : s.MeasuredFrom i n u) {e : BusEvent} (he : sampleFetch e = true) :
    s.MeasuredFrom i (n + 1) (u.dropAnswer.record e) := by
  obtain ⟨evs, hevs, hlen, hsample⟩ := h.history
  constructor
  case history =>
    exact ⟨evs ++ [e], by simp [hevs], by simpa using hlen, by simpa [or_imp, forall_and] using ⟨hsample, he⟩⟩
  case params => simpa using h.params
  case init => simpa using h.init
  case cal => simpa using h.cal
  case events => simpa using h.events
  case press => simpa using h.press
  case hum => simpa using h.hum
  case f0 => simpa using h.f0
  case f1 => simpa using h.f1

/-! Writes of the registers that every measurement command writes, and the response. -/

theorem setRaw (h : s.MeasuredFrom i n u) (v : BitVec 32) : s.MeasuredFrom i n (u.setRaw v) := { h with }
theorem setTemp (h : s.MeasuredFrom i n u) (r : TempRegs) : s.MeasuredFrom i n (u.setTemp r) := { h with }
theorem setTFine (h : s.MeasuredFrom i n u) (v : BitVec 32) : s.MeasuredFrom i n (u.setTFine v) := { h with }
theorem respond (h : s.MeasuredFrom i n u) (r : Response) : s.MeasuredFrom i n (u.respond r) := { h with }
theorem raise (h : s.MeasuredFrom i n u) (k : ErrorKind) : s.MeasuredFrom i n (u.raise k) := { h with }

/-! Writes of the registers that only some of them write. -/

theorem setPress (h : s.MeasuredFrom i n u) (hi : i ≠ .readTemperature ∧ i ≠ .readHumidity) (r : PressRegs) :
    s.MeasuredFrom i n (u.setPress r) := { h with press := fun hwhich => hwhich.elim (absurd · hi.1) (absurd · hi.2) }

theorem setHum (h : s.MeasuredFrom .readHumidity n u) (r : HumRegs) : s.MeasuredFrom .readHumidity n (u.setHum r) :=
  { h with hum := fun hother => absurd rfl hother }

theorem setF0 (h : s.MeasuredFrom i n u) (hi : i ≠ .readTemperature ∧ i ≠ .readPressure) (v : Flt) :
    s.MeasuredFrom i n (u.setF0 v) := { h with f0 := fun hwhich => hwhich.elim (absurd · hi.1) (absurd · hi.2) }

theorem setF1 {arg : BitVec 64} (h : s.MeasuredFrom (.readAltitude arg) n u) (v : Flt) :
    s.MeasuredFrom (.readAltitude arg) n (u.setF1 v) := { h with f1 := fun hother => absurd rfl (hother arg) }

/-! The operations that can raise: the rest of the command stays in the frame, or the error does. -/

theorem requireReady (h : s.MeasuredFrom i n u) {k : State → State} (hk : s.MeasuredFrom i n u → s.MeasuredFrom i m (k u))
    (hnm : n ≤ m := by decide) : s.MeasuredFrom i m (u.requireReady k) :=
  State.requireReady_induct (fun _ => hk h) fun _ => (h.mono hnm).raise _

theorem sampled (h : s.MeasuredFrom i n u) {addr : Byte} {bytes : List Byte} (he : sampleFetch (.read addr bytes) = true)
    (raw : BitVec 32) : s.MeasuredFrom i (n + 1) (u.sampled addr bytes raw) := (h.transaction he).setRaw raw

theorem tempRead (h : s.MeasuredFrom i n u) {k : State → State}
    (hk : ∀ v, s.MeasuredFrom i (n + 1) v → s.MeasuredFrom i m (k v)) (hnm : n < m := by decide) :
    s.MeasuredFrom i m (u.tempRead k) :=
  State.tempRead_induct (fun _ _ => hk _ (((h.sampled rfl _).setTemp _).setTFine _))
    fun _ _ => ((h.transaction rfl).mono hnm).raise _

theorem fetchP (h : s.MeasuredFrom i n u) {k : State → State}
    (hk : ∀ v, s.MeasuredFrom i (n + 1) v → s.MeasuredFrom i m (k v)) (hnm : n < m := by decide) :
    s.MeasuredFrom i m (u.fetchP k) :=
  State.fetchP_induct (fun _ _ => hk _ (h.sampled rfl _)) fun _ _ => ((h.transaction rfl).mono hnm).raise _

theorem fetchH (h : s.MeasuredFrom i n u) {k : State → State}
    (hk : ∀ v, s.MeasuredFrom i (n + 1) v → s.MeasuredFrom i m (k v)) (hnm : n < m := by decide) :
    s.MeasuredFrom i m (u.fetchH k) :=
  State.fetchH_induct (fun _ _ => hk _ (h.sampled rfl _)) fun _ _ => ((h.transaction rfl).mono hnm).raise _

theorem pressRead (h : s.MeasuredFrom i 0 u) (hi : i ≠ .readTemperature ∧ i ≠ .readHumidity) {k : State → State}
    (hk : ∀ v, s.MeasuredFrom i 2 v → s.MeasuredFrom i 2 (k v)) : s.MeasuredFrom i 2 (u.pressRead k) :=
  h.tempRead fun _ h => h.fetchP fun _ h => hk _ (h.setPress hi _)

theorem altitudeEngine {arg : BitVec 64} (h : s.MeasuredFrom (.readAltitude arg) n u) (sea : Flt) :
    s.MeasuredFrom (.readAltitude arg) n (u.altitudeEngine sea) :=
  (((h.setF0 (by simp) _).setF1 _).setF0 (by simp) _).respond _

end State.MeasuredFrom

/-- Each measurement command stays in its frame, with at most two sample fetches. -/
theorem exec_measuredFrom {i : Instr} {s t : State} (hi : measurement i = true) (h : exec i s = .next t) :
    s.MeasuredFrom i 2 t := by
  have hself := s.measuredFrom_self i
  cases i with
  | setup => cases hi
  | softReset => cases hi
  | readTemperature =>
    cases h
    exact hself.requireReady fun h => h.tempRead fun _ h => (h.respond _).mono (by decide)
  | readPressure =>
    cases h
    exact hself.requireReady fun h => h.pressRead (by simp) fun _ h => h.respond _
  | readHumidity =>
    cases h
    exact hself.requireReady fun h => h.tempRead fun _ h => h.fetchH fun _ h =>
      ((h.setHum _).setF0 (by simp) _).respond _
  | readAltitude arg =>
    cases h
    exact hself.requireReady fun h => h.pressRead (by simp) fun _ h => (h.setF0 (by simp) _).altitudeEngine _

/-- Settles O53: the frame of each command, read off field by field. -/
theorem measurementFrame : Obligations.MeasurementFrame := by
  refine ⟨fun i s t hi h => ?_, fun s t h => ?_, fun s t h => ?_, fun s t h => ?_, fun arg s t h => ?_⟩
  · have hframe := exec_measuredFrom hi h
    exact ⟨hframe.params, hframe.init, hframe.cal, hframe.events, hframe.history⟩
  · have hframe := exec_measuredFrom rfl h
    exact ⟨hframe.press (.inl rfl), hframe.hum (by simp), hframe.f0 (.inl rfl), hframe.f1 (by simp)⟩
  · have hframe := exec_measuredFrom rfl h
    exact ⟨hframe.hum (by simp), hframe.f0 (.inr rfl), hframe.f1 (by simp)⟩
  · have hframe := exec_measuredFrom rfl h
    exact ⟨hframe.press (.inr rfl), hframe.f1 (by simp)⟩
  · exact (exec_measuredFrom rfl h).hum (by simp)

end Sys2Proof.Machine
end

section
/-!
SUPPORT. The denominator of the pressure chain and its guard (43_pressure.md R112, R113), and the fine temperatures of `CompT`,
for which R111 and the first line of R112 hand nothing to `wrap_64` that it would change.
-/
namespace Sys2Proof.Machine

/-- Every value but -2^63 that fits, as R116 writes it. -/
theorem fits_of_abs_le {a : Int} (h : |a| ≤ 2 ^ 63 - 1) : fits 64 a := by
  obtain ⟨hlo, hhi⟩ := abs_le.mp h
  constructor <;> omega

theorem pressAcc1_range (pv : BitVec 64) (c : Calibration) :
    -(2 ^ 30) ≤ (pressAcc1 pv c).toInt ∧ (pressAcc1 pv c).toInt ≤ 2 ^ 30 - 1 := by
  obtain ⟨hlo, hhi⟩ := fits_toInt (((1#64 <<< 47) + pressAcc1Sum pv c) * c.p1.setWidth 64)
  rw [pressAcc1, toInt_asr]
  omega

theorem pressAcc1_eq_zero_iff (pv : BitVec 64) (c : Calibration) :
    pressAcc1 pv c = 0#64 ↔ 0 ≤ (((1#64 <<< 47) + pressAcc1Sum pv c) * c.p1.setWidth 64).toInt ∧
      (((1#64 <<< 47) + pressAcc1Sum pv c) * c.p1.setWidth 64).toInt ≤ 2 ^ 33 - 1 := by
  rw [pressAcc1, ← BitVec.toInt_inj, toInt_asr, BitVec.toInt_zero]
  omega

theorem pressAcc1_of_p1_zero (pv : BitVec 64) {c : Calibration} (h : c.p1 = 0#16) : pressAcc1 pv c = 0#64 := by
  rw [pressAcc1_eq_zero_iff, h]
  simp

theorem pressChain_of_zero {adc t : BitVec 32} {c : Calibration} (old : PressRegs) (h : pressAcc1 (pressPv t) c = 0#64) :
    pressChain old adc t c =
      { old with pv := pressPv t, acc2 := pressAcc2 (pressPv t) c, acc1 := 0#64, pFix := 0#64 } := by
  simp [pressChain, zeroDenominator, h]

section Accumulators
variable {pv : Int} (hlo : -4322224 ≤ pv) (hhi : pv ≤ 4066144) (c : Calibration)
include hlo hhi

theorem pv_sq_range : 0 ≤ pv * pv ∧ pv * pv ≤ 4322224 * 4322224 := by
  have hprod := min_le_mul_le_max hlo hhi pv
  have hnonneg := mul_self_nonneg pv
  omega

/-- The results of R111 after `PV`. -/
theorem acc2_results_fit : fits 64 (pv * pv) ∧ fits 64 (pv * pv * c.p6.toInt) ∧ fits 64 (pv * c.p5.toInt) ∧
    fits 64 (pv * c.p5.toInt * 2 ^ 17) ∧ fits 64 (pv * pv * c.p6.toInt + pv * c.p5.toInt * 2 ^ 17) ∧
    fits 64 (c.p4.toInt * 2 ^ 35) ∧ fits 64 (exactAcc2 pv c) := by
  obtain ⟨hsqLo, hsqHi⟩ := pv_sq_range hlo hhi
  obtain ⟨h4Lo, h4Hi⟩ := fits_toInt c.p4
  obtain ⟨h5Lo, h5Hi⟩ := fits_toInt c.p5
  obtain ⟨h6Lo, h6Hi⟩ := fits_toInt c.p6
  have h5 := min_le_mul_le_max hlo hhi c.p5.toInt
  have h6 := min_le_mul_le_max hsqLo hsqHi c.p6.toInt
  unfold exactAcc2 fits
  omega

/-- The results of the first line of R112, and the first of its second line. -/
theorem acc1_results_fit : fits 64 (pv * pv * c.p3.toInt) ∧ fits 64 (pv * c.p2.toInt) ∧
    fits 64 (pv * c.p2.toInt * 2 ^ 12) ∧ fits 64 (exactAcc1Sum pv c) ∧ fits 64 (2 ^ 47 + exactAcc1Sum pv c) := by
  obtain ⟨hsqLo, hsqHi⟩ := pv_sq_range hlo hhi
  obtain ⟨h2Lo, h2Hi⟩ := fits_toInt c.p2
  obtain ⟨h3Lo, h3Hi⟩ := fits_toInt c.p3
  have h2 := min_le_mul_le_max hlo hhi c.p2.toInt
  have h3 := min_le_mul_le_max hsqLo hsqHi c.p3.toInt
  unfold exactAcc1Sum fits
  omega

end Accumulators

end Sys2Proof.Machine
end

section
/-!
SUPPORT. `ToHPa` (43_pressure.md R117): the first of its two divisions is exact.
-/
namespace Sys2Proof.Machine

theorem c100_eq : Flt.c100 = .fin false ⟨0x4059000000000000, by decide⟩ := by decide +kernel

theorem units_of_hundred : Flt.units 0x4059000000000000 = 100 * Flt.scale := by decide +kernel

theorem two_pow_mul_256 : 2 ^ 1066 * 256 = Flt.scale := by decide +kernel

/-- An integer of 53 bits divided by 256.0 is a magnitude: its 53 bits, eight places further down. -/
theorem fdiv_ofInt_c256 {v : Int} (hv : v.natAbs ≤ 2 ^ 53) : ∃ m : Fin 9218868437227405312,
    Flt.fdiv (Flt.ofInt v) Flt.c256 = .fin (decide (v < 0)) m ∧ Flt.units m.val * 256 = v.natAbs * Flt.scale := by
  obtain ⟨m, hm⟩ := Flt.exists_units_eq hv 1066
  have hexact : Flt.units m * 256 = v.natAbs * Flt.scale := by
    rw [hm, mul_assoc, two_pow_mul_256]
  obtain ⟨k, hk⟩ := Flt.exists_mag_of_nat hv
  have hlt : m < 9218868437227405312 :=
    (Flt.units_strictMono.le_iff_le.mp (by omega : Flt.units m ≤ Flt.units k.val)).trans_lt k.isLt
  refine ⟨⟨m, hlt⟩, ?_, hexact⟩
  rw [Flt.c256, fdiv_ofInt_ofInt hv (by decide) (by decide), Flt.round, show (256 : Int).natAbs = 256 from rfl,
    Flt.roundMag_eq_of_units (by decide) hexact, Flt.ofMag_of_lt hlt]
  simp

theorem toHPa_zero : toHPa 0#64 = Flt.zero false := by decide +kernel

end Sys2Proof.Machine
end

section
/-!
SUPPORT. The three ends of steps 2 to 4 of READ_PRESSURE as equations (43_pressure.md R118).
-/
namespace Sys2Proof.Machine

theorem State.fetchP_error {s : State} {e : BusErr} (he : s.nextAnswer = .error e) (k : State → State) :
    s.fetchP k = (s.dropAnswer.record (.readFailed regPressureData 3 e)).raise (.busError e) := State.memRead_error he

theorem State.nextAnswer_sampled_fineTemp (s : State) (addr : Byte) (bytes : List Byte) (raw : BitVec 32) :
    (s.sampled addr bytes raw).fineTemp.nextAnswer = s.dropAnswer.nextAnswer := rfl

theorem State.dropAnswer_sampled_fineTemp (s : State) (addr : Byte) (bytes : List Byte) (raw : BitVec 32) :
    (s.sampled addr bytes raw).fineTemp.dropAnswer = (s.dropAnswer.sampled addr bytes raw).fineTemp := by
  simp [State.sampled, State.fineTemp]

theorem State.pressRead_ok {s : State} {w v : Window} (h : s.answersBegin [.ok w, .ok v]) (k : State → State) :
    let first := unpack20 (Window.get w (by decide))
    let raw := unpack20 (Window.get v (by decide))
    s.pressRead k = k { s.dropAnswers 2 with
      raw := raw, temp := tempChain first s.cal.t1 s.cal.t2 s.cal.t3, tFine := compT first s.cal
      press := pressChain s.press raw (compT first s.cal) s.cal
      history := s.history ++ [.read regTempData (w.val.take 3), .read regPressureData (v.val.take 3)] } := by
  obtain ⟨hw, hv, -⟩ := h
  rw [State.pressRead, State.tempRead_ok hw, State.fetchP_ok ((State.nextAnswer_sampled_fineTemp ..).trans hv),
    State.sampled_eq (State.fineTemp _), State.dropAnswer_sampled_fineTemp]
  simp [State.sampled_fineTemp_eq, State.setPress, State.dropAnswers]

theorem State.pressRead_temp_error {s : State} {e : BusErr} (he : s.nextAnswer = .error e) (k : State → State) :
    s.pressRead k = { s.dropAnswer with
      history := s.history ++ [.readFailed regTempData 3 e], responses := s.responses ++ [.err (.busError e)] } := by
  rw [State.pressRead, State.tempRead_error he, State.failed_eq]

theorem State.pressRead_press_error {s : State} {w : Window} {e : BusErr} (h : s.answersBegin [.ok w, .error e])
    (k : State → State) :
    let raw := unpack20 (Window.get w (by decide))
    s.pressRead k = { s.dropAnswers 2 with
      raw := raw, temp := tempChain raw s.cal.t1 s.cal.t2 s.cal.t3, tFine := compT raw s.cal
      history := s.history ++ [.read regTempData (w.val.take 3), .readFailed regPressureData 3 e]
      responses := s.responses ++ [.err (.busError e)] } := by
  obtain ⟨hw, he, -⟩ := h
  rw [State.pressRead, State.tempRead_ok hw, State.fetchP_error ((State.nextAnswer_sampled_fineTemp ..).trans he),
    State.failed_eq, State.dropAnswer_sampled_fineTemp]
  simp [State.sampled_fineTemp_eq, State.dropAnswers]

end Sys2Proof.Machine
end

section
/-!
Proofs of the statements about READ_PRESSURE, the guard, the accumulators and `ToHPa`.
-/
namespace Sys2Proof.Machine

/-- Settles O27: the flag, then the answers to the two reads, decide the case. -/
theorem readPressureResult : Obligations.ReadPressureResult := by
  refine ⟨fun arg => (decode_append_eq_ok_iff _ _ _).mpr (by simp [Instr.opcode]), fun s h => ?_, fun s e h hans => ?_,
    fun s w e h hans => ?_, fun s w v h hans => ?_⟩
  · rw [exec, execReadPressure, State.requireReady_uninitialized h]
    rfl
  · rw [exec, execReadPressure, State.requireReady_ready h, State.pressRead_temp_error hans.1]
    rfl
  · rw [exec, execReadPressure, State.requireReady_ready h, State.pressRead_press_error hans]
    rfl
  · rw [exec, execReadPressure, State.requireReady_ready h, State.pressRead_ok hans]
    simp [State.respond, regTempData, regPressureData]

/-- Settles O29: the ranges of R111 and R112 are those in which each register is its unbounded value. -/
theorem pressureAccumulators : Obligations.PressureAccumulators := by
  refine ⟨fun t c hlo hhi => ?_, pressAcc1_range⟩
  have hpvLo : -4322224 ≤ t.toInt - 128000 := by omega
  have hpvHi : t.toInt - 128000 ≤ 4066144 := by omega
  obtain ⟨hsq, h6, h5, h5s, h65, h4, hacc2⟩ := acc2_results_fit hpvLo hpvHi c
  obtain ⟨h3, h2, h2s, hsum, -⟩ := acc1_results_fit hpvLo hpvHi c
  have ePv : (pressPv t).toInt = t.toInt - 128000 := toInt_pressPv (by constructor <;> omega)
  exact ⟨ePv, toInt_pressAcc2 ePv hsq h6 h5 h5s h65 h4 hacc2, toInt_pressAcc1Sum ePv hsq h3 h2 h2s hsum⟩

/-- Settles O33: dividing by 256.0 leaves an exact magnitude, so the division by 100.0 rounds alone. -/
theorem hectopascalIsRoundedOnce : Obligations.HectopascalIsRoundedOnce := by
  intro p hp
  obtain ⟨m, hm, hmUnits⟩ := fdiv_ofInt_c256 hp
  rw [toHPa, hm, c100_eq, Flt.fdiv_fin_fin _ _ _ (by decide), Bool.xor_false, units_of_hundred]
  calc Flt.round _ (Flt.units m.val) (100 * Flt.scale)
      = Flt.round _ (Flt.units m.val * 256) (100 * Flt.scale * 256) := (Flt.round_mul_right _ _ _ (by decide)).symm
    _ = Flt.round _ (p.toInt.natAbs * Flt.scale) (25600 * Flt.scale) := by rw [hmUnits, Nat.mul_right_comm]
    _ = Flt.round _ p.toInt.natAbs 25600 := Flt.round_mul_right _ _ _ Flt.scale_pos

/-- Settles O28: the guard by `pressChain_of_zero`, its condition by the range of the product, the response by O27. -/
theorem zeroDenominatorGuard : Obligations.ZeroDenominatorGuard := by
  refine ⟨fun old adc t c h => ⟨pressChain_of_zero old h, ?_⟩, pressAcc1_eq_zero_iff, fun pv c h => pressAcc1_of_p1_zero pv h,
    fun s w v hready hans h => ?_⟩
  · rw [pressChain_pFix_of_zero old h, toHPa_zero]
  · obtain ⟨-, -, -, -, hok⟩ := readPressureResult
    refine ⟨_, hok s w v hready hans, pressChain_pFix_of_zero _ h, ?_, rfl⟩
    simp only [pressChain_pFix_of_zero s.press h, toHPa_zero]

end Sys2Proof.Machine
end

section
/-!
SUPPORT. The conditions of 43_pressure.md R116: what (c) says of the results of R115 that it does not name.
-/
namespace Sys2Proof.Machine

/-- Condition (c) bounds `PX1` before its shift, and the product on the way to it. -/
theorem x1_results_fit {p9 x : Int} (h : |p9| * x ^ 2 ≤ 2 ^ 63 - 1) : fits 64 (p9 * x) ∧ fits 64 (p9 * x * x) := by
  have hprod : |p9 * x * x| = |p9| * x ^ 2 := by rw [mul_assoc, abs_mul, ← sq, abs_sq]
  have hx : |x| ≤ x ^ 2 := by
    rw [← sq_abs]
    exact Int.le_self_sq _
  constructor
  · apply fits_of_abs_le
    rw [abs_mul]
    exact (mul_le_mul_of_nonneg_left hx (abs_nonneg p9)).trans h
  · apply fits_of_abs_le
    rwa [hprod]

/-- Condition (c) keeps the quotient small unless P9 is 0; then `PX1` is 0. -/
theorem quotient_add_x1_fits {pq : Int} {c : Calibration} (hpq : fits 64 pq)
    (h : |c.p9.toInt| * (pq / 2 ^ 13) ^ 2 ≤ 2 ^ 63 - 1) : fits 64 (pq + exactX1 pq c) := by
  obtain ⟨-, hlo, hhi⟩ := x1_results_fit h
  unfold exactX1
  rcases eq_or_ne c.p9.toInt 0 with h9 | h9
  · rw [h9]
    simpa using hpq
  · have hsq : (pq / 2 ^ 13) ^ 2 < (2 ^ 32) ^ 2 :=
      ((le_mul_of_one_le_left (sq_nonneg _) (Int.one_le_abs h9)).trans h).trans_lt (by decide)
    obtain ⟨hqLo, hqHi⟩ := abs_lt.mp (abs_lt_of_sq_lt_sq hsq (by decide))
    constructor <;> omega

end Sys2Proof.Machine
end

section
/-!
Proof of the statement about the conditions of 43_pressure.md R116.
-/
namespace Sys2Proof.Machine

/-- Settles O31: R111 and R112 fit in the range of `CompT`, and past the guard each result is bounded by (b), (c) or (d). -/
theorem pressureNoOverflowConditions : Obligations.PressureNoOverflowConditions := by
  intro adc t c hadcLo hadcHi hlo hhi pv pq ha hrest
  have hpvLo : -4322224 ≤ pv := by omega
  have hpvHi : pv ≤ 4066144 := by omega
  obtain ⟨hsq, h6, h5, h5s, h65, h4, hacc2⟩ := acc2_results_fit hpvLo hpvHi c
  obtain ⟨h3, h2, h2s, hsum, hadd⟩ := acc1_results_fit hpvLo hpvHi c
  have hpv : fits 64 pv := by constructor <;> omega
  have hmul : fits 64 ((2 ^ 47 + exactAcc1Sum pv c) * c.p1.toNat) :=
    fits_of_abs_le (by rwa [abs_mul, Nat.abs_cast])
  simp only [NovfP, pressResults, List.forall_mem_append, List.forall_mem_cons]
  refine ⟨⟨hpv, hsq, h6, h5, h5s, h65, h4, hacc2, h3, h2, h2s, hsum, hadd, hmul, List.forall_mem_nil _⟩, ?_⟩
  by_cases hzero : exactAcc1 pv c = 0
  · rw [if_pos hzero]
    exact List.forall_mem_nil _
  · rw [if_neg hzero]
    obtain ⟨hb, h9, h8, hx2, hfix⟩ := hrest hzero
    obtain ⟨hbLo, hbHi⟩ := abs_le.mp hb
    obtain ⟨h9x, h9xx⟩ := x1_results_fit h9
    have hdiff : fits 64 ((1048576 - adc) * 2 ^ 31 - exactAcc2 pv c) := by constructor <;> omega
    have hnum : fits 64 (exactNumerator adc pv c) ∧ exactNumerator adc pv c ≠ -(2 ^ 63) := by
      unfold exactNumerator fits
      omega
    have hpq : fits 64 pq := fits_tdiv hnum.1 (.inl hnum.2)
    have h7 := fits_toInt c.p7
    simp only [List.forall_mem_cons]
    exact ⟨by constructor <;> omega, by constructor <;> omega, hdiff, hnum.1, hpq, h9x, h9xx,
      fits_of_abs_le h8, quotient_add_x1_fits hpq h9, fits_of_abs_le hx2, by unfold fits at *; omega,
      fits_of_abs_le hfix, List.forall_mem_nil _⟩

end Sys2Proof.Machine
end

section
/-!
SUPPORT. The pressure chain with the example coefficients and fine temperature 128422, as a function of the sample
(43_pressure.md R116, R119).
-/
namespace Sys2Proof.Machine

/-- The coefficients P1 to P9 of R119; the chain reads no others. -/
def examplePressCal : Calibration :=
  { (default : Calibration) with
    p1 := 36477#16, p2 := BitVec.ofInt 16 (-10685), p3 := 3024#16, p4 := 2855#16, p5 := 140#16, p6 := BitVec.ofInt 16 (-7)
    p7 := 15500#16, p8 := BitVec.ofInt 16 (-14600), p9 := 6000#16 }

/-- The quotient of R114 in unbounded integers with the example coefficients. -/
def exampleQuotient (adc : Nat) : Int := exactQuotient adc 422 examplePressCal

/-- `CompP` in unbounded integers with the example coefficients. -/
def examplePress (adc : Nat) : Int := exactPress adc 128422 examplePressCal

theorem exactAcc1_example : exactAcc1 422 examplePressCal = 597560748 := by decide

theorem exactAcc2_example : exactAcc2 422 examplePressCal = 98104795527812 := by decide

/-- Truncation moves the quotient by less than 1. -/
theorem exampleQuotient_bounds (adc : Nat) :
    ((1048576 - adc : Int) * 2 ^ 31 - 98104795527812) * 3125 - 597560748 < exampleQuotient adc * 597560748 ∧
    exampleQuotient adc * 597560748 < ((1048576 - adc : Int) * 2 ^ 31 - 98104795527812) * 3125 + 597560748 := by
  rw [exampleQuotient, exactQuotient, exactNumerator, exactAcc1_example, exactAcc2_example]
  generalize ((1048576 - adc : Int) * 2 ^ 31 - 98104795527812) * 3125 = n
  have hdiv := Int.tdiv_mul_add_tmod n 597560748
  have hlt := Int.tmod_lt_of_pos n (b := 597560748) (by decide)
  have hgt := Int.lt_tmod_of_pos n (b := 597560748) (by decide)
  omega

theorem examplePress_eq (adc : Nat) : examplePress adc = (exampleQuotient adc + exactX1 (exampleQuotient adc) examplePressCal +
    exactX2 (exampleQuotient adc) examplePressCal) / 2 ^ 8 + 15500 * 2 ^ 4 :=
  exactPress_of_ne_zero (exactAcc1_example.trans_ne (by decide))

theorem exactX1_example (pq : Int) : exactX1 pq examplePressCal = 6000 * (pq / 2 ^ 13) * (pq / 2 ^ 13) / 2 ^ 25 := rfl

theorem exactX2_example (pq : Int) : exactX2 pq examplePressCal = -14600 * pq / 2 ^ 19 := rfl

/-- One step of the sample lowers the quotient by more than 11000; a step of 8192 in it lowers the square term by at most 23,
for over the samples two values of `PQ >> 13` add up to -125256 or more. -/
theorem examplePress_anti {a b : Nat} (hab : a ≤ b) (hb : b < 2 ^ 20) : examplePress b ≤ examplePress a := by
  rcases hab.eq_or_lt with rfl | hlt
  · exact le_rfl
  · simp only [examplePress_eq, exactX1_example, exactX2_example]
    obtain ⟨haLo, haHi⟩ := exampleQuotient_bounds a
    obtain ⟨hbLo, hbHi⟩ := exampleQuotient_bounds b
    generalize exampleQuotient a = qa at *
    generalize exampleQuotient b = qb at *
    have hsq : 6000 * (qb / 2 ^ 13) * (qb / 2 ^ 13) ≤
        6000 * (qa / 2 ^ 13) * (qa / 2 ^ 13) + 6000 * 125256 * (qa / 2 ^ 13 - qb / 2 ^ 13) := by
      have hstep : 0 ≤ qa / 2 ^ 13 - qb / 2 ^ 13 := by omega
      have hsum : 0 ≤ qa / 2 ^ 13 + qb / 2 ^ 13 + 125256 := by omega
      linarith [mul_nonneg hstep hsum]
    omega

theorem examplePress_inRange_iff {a : Nat} (ha : a < 2 ^ 20) :
    (300 * 25600 ≤ examplePress a ∧ examplePress a ≤ 1100 * 25600) ↔ 361089 ≤ a ∧ a ≤ 829551 := by
  have habove : 1100 * 25600 < examplePress 361088 := by decide
  have hhigh : examplePress 361089 ≤ 1100 * 25600 := by decide
  have hlow : 300 * 25600 ≤ examplePress 829551 := by decide
  have hbelow : examplePress 829552 < 300 * 25600 := by decide
  constructor
  · rintro ⟨hlo, hhi⟩
    constructor
    · by_contra! h
      exact absurd (examplePress_anti (Nat.le_of_lt_succ h) (by decide)) (by omega)
    · by_contra! h
      exact absurd (examplePress_anti (a := 829552) h ha) (by omega)
  · rintro ⟨hlo, hhi⟩
    exact ⟨hlow.trans (examplePress_anti hhi (by decide)), (examplePress_anti hlo ha).trans hhigh⟩

theorem examplePress_range {adc : Nat} (hadc : adc < 2 ^ 20) : -1697504 ≤ examplePress adc ∧ examplePress adc ≤ 44339071 := by
  have hfirst : examplePress 0 = 44339071 := by decide
  have hlast : examplePress (2 ^ 20 - 1) = -1697504 := by decide
  rw [← hfirst, ← hlast]
  exact ⟨examplePress_anti (Nat.le_pred_of_lt hadc) (by decide), examplePress_anti (Nat.zero_le adc) hadc⟩

/-- The example is inside `NOVF_P` for every sample, by the conditions of R116. -/
theorem novfP_example {adc : Nat} (hadc : adc < 2 ^ 20) : NovfP adc 128422 examplePressCal := by
  obtain ⟨hqLo, hqHi⟩ := exampleQuotient_bounds adc
  obtain ⟨hpLo, hpHi⟩ := examplePress_range hadc
  have hsum := examplePress_eq adc
  have hb : |(1048576 - adc : Int) * 2 ^ 31 - exactAcc2 422 examplePressCal| ≤ 2951479051793528 := by
    rw [exactAcc2_example, abs_le]
    omega
  have h9 : (6000 : Int) * (exampleQuotient adc / 2 ^ 13) ^ 2 ≤ 2 ^ 63 - 1 := by
    have hsq : (exampleQuotient adc / 2 ^ 13) ^ 2 ≤ 2000000 ^ 2 := sq_le_sq' (by omega) (by omega)
    omega
  have hx2 : |exampleQuotient adc + exactX1 (exampleQuotient adc) examplePressCal +
      exactX2 (exampleQuotient adc) examplePressCal| ≤ 2 ^ 63 - 1 := abs_le.mpr (by omega)
  have hfix : |examplePress adc| ≤ 2 ^ 63 - 1 := abs_le.mpr (by omega)
  have h8 : |-14600 * exampleQuotient adc| ≤ 2 ^ 63 - 1 := abs_le.mpr (by omega)
  exact pressureNoOverflowConditions adc 128422 examplePressCal (by omega) (by omega) (by decide) (by decide) (by decide)
    fun _ => ⟨hb, h9, h8, hx2, hfix⟩

theorem pressChain_example {c : Calibration} (h1 : c.p1 = 36477#16) (h2 : c.p2 = BitVec.ofInt 16 (-10685)) (h3 : c.p3 = 3024#16)
    (h4 : c.p4 = 2855#16) (h5 : c.p5 = 140#16) (h6 : c.p6 = BitVec.ofInt 16 (-7)) (h7 : c.p7 = 15500#16)
    (h8 : c.p8 = BitVec.ofInt 16 (-14600)) (h9 : c.p9 = 6000#16) (old : PressRegs) (adc t : BitVec 32) :
    pressChain old adc t c = pressChain old adc t examplePressCal := by
  cases c
  subst h1 h2 h3 h4 h5 h6 h7 h8 h9
  rfl

theorem pressChain_example_pFix (old : PressRegs) {adc : BitVec 32} (hadc : adc.toNat < 2 ^ 20) :
    (pressChain old adc 128422#32 examplePressCal).pFix.toInt = examplePress adc.toNat :=
  pressureChainExactInsideNovf old adc 128422#32 examplePressCal (novfP_example hadc)

end Sys2Proof.Machine
end

section
/-!
Proof of the statement about the example of 43_pressure.md R119.
-/
namespace Sys2Proof.Machine

/-- Settles O32: the example is inside `NOVF_P`, so the chain's result is its unbounded value. -/
theorem examplePressureIsMonotone : Obligations.ExamplePressureIsMonotone := by
  intro old c h1 h2 h3 h4 h5 h6 h7 h8 h9
  simp only [pressChain_example h1 h2 h3 h4 h5 h6 h7 h8 h9 old]
  constructor
  · intro a b hab hb
    rw [pressChain_example_pFix old hb, pressChain_example_pFix old (hab.trans_lt hb)]
    exact examplePress_anti hab hb
  · intro a ha
    rw [pressChain_example_pFix old ha]
    exact examplePress_inRange_iff ha

end Sys2Proof.Machine
end

section
/-!
SUPPORT. The clamp of the humidity chain and its output scale, for every `HZ` (44_humidity.md R127).
-/
namespace Sys2Proof.Machine

theorem clampHumidity_le (hz : BitVec 32) : (clampHumidity hz).toInt ≤ 419430400 := by
  rw [toInt_clampHumidity]
  split
  · decide
  · split <;> omega

/-- The clamped value is not negative, so it is the same read as signed and as unsigned. -/
theorem toInt_clampHumidity_eq_toNat (hz : BitVec 32) : (clampHumidity hz).toInt = (clampHumidity hz).toNat :=
  BitVec.toInt_eq_toNat_of_lt (BitVec.toInt_pos_iff.mp (clampHumidity_nonneg hz))

theorem humChain_hc (adc t : BitVec 32) (c : Calibration) :
    (humChain adc t c).hc = clampHumidity (humChain adc t c).hz := by
  simp only [humChain]

theorem humChain_hFix_toNat (adc t : BitVec 32) (c : Calibration) :
    (humChain adc t c).hFix.toNat = (humChain adc t c).hc.toNat / 2 ^ 12 := by
  have hvalue := toNat_asr_of_nonneg 12 (clampHumidity_nonneg (humChain adc t c).hz)
  rw [toInt_clampHumidity_eq_toNat] at hvalue
  rw [humChain_hFix, humChain_hc]
  exact_mod_cast hvalue

theorem humChain_hFix_le (adc t : BitVec 32) (c : Calibration) : (humChain adc t c).hFix.toNat ≤ 102400 := by
  have hle := clampHumidity_le (humChain adc t c).hz
  rw [toInt_clampHumidity_eq_toNat] at hle
  rw [humChain_hFix_toNat, humChain_hc]
  omega

end Sys2Proof.Machine
end

section
/-!
SUPPORT. `ToRH` (44_humidity.md R128): its division is exact, and its result lies between +0.0 and 100.0.
-/
namespace Sys2Proof.Flt

theorem lt_fin_false (m k : Fin 9218868437227405312) : lt (.fin false m) (.fin false k) = decide (m.val < k.val) := by
  simp [lt, rank]

end Sys2Proof.Flt

namespace Sys2Proof.Machine

theorem two_pow_mul_1024 : 2 ^ 1064 * 1024 = Flt.scale := by decide +kernel

theorem clampPercent_of_in_range {v : Flt} (hlow : v.lt (Flt.zero false) = false) (hhigh : Flt.c100.lt v = false) :
    clampPercent v = v := by
  simp [clampPercent, hlow, hhigh]

/-- A number of 1024ths up to 100 is a magnitude up to that of 100.0. -/
theorem exists_mag_of_1024ths {n : Nat} (hn : n ≤ 102400) :
    ∃ m, m ≤ 0x4059000000000000 ∧ Flt.units m * 1024 = n * Flt.scale := by
  obtain ⟨m, hm⟩ := Flt.exists_units_eq (hn.trans (by decide)) 1064
  have hexact : Flt.units m * 1024 = n * Flt.scale := by rw [hm, mul_assoc, two_pow_mul_1024]
  refine ⟨m, Flt.units_strictMono.le_iff_le.mp ?_, hexact⟩
  rw [units_of_hundred]
  have hle : n * Flt.scale ≤ 102400 * Flt.scale := Nat.mul_le_mul_right _ hn
  omega

theorem percentOf_eq {h : BitVec 32} (hh : h.toNat ≤ 102400) : ∃ m : Fin 9218868437227405312,
    percentOf h = .fin false m ∧ m.val ≤ 0x4059000000000000 ∧ Flt.units m.val * 1024 = h.toNat * Flt.scale := by
  obtain ⟨m, hle, hexact⟩ := exists_mag_of_1024ths hh
  have hlt : m < 9218868437227405312 := hle.trans_lt (by decide)
  refine ⟨⟨m, hlt⟩, ?_, hle, hexact⟩
  rw [percentOf, Flt.c1024, fdiv_ofInt_ofInt (by omega) (by decide) (by decide), Flt.round, Int.natAbs_natCast,
    show (1024 : Int).natAbs = 1024 from rfl, Flt.roundMag_eq_of_units (by decide) hexact, Flt.ofMag_of_lt hlt]
  simp

/-- Neither test of the clamp fires on a magnitude up to that of 100.0. -/
theorem percent_in_range {m : Fin 9218868437227405312} (hle : m.val ≤ 0x4059000000000000) :
    Flt.lt (.fin false m) (Flt.zero false) = false ∧ Flt.lt Flt.c100 (.fin false m) = false := by
  rw [Flt.zero, c100_eq, Flt.lt_fin_false, Flt.lt_fin_false]
  simpa using hle

theorem toRH_eq_percentOf {h : BitVec 32} (hh : h.toNat ≤ 102400) : toRH h = percentOf h := by
  obtain ⟨m, hm, hle, -⟩ := percentOf_eq hh
  obtain ⟨hlow, hhigh⟩ := percent_in_range hle
  rw [toRH, hm, clampPercent_of_in_range hlow hhigh]

theorem toRH_in_range {h : BitVec 32} (hh : h.toNat ≤ 102400) :
    toRH h ≠ .nan ∧ (toRH h).lt (Flt.zero false) = false ∧ Flt.c100.lt (toRH h) = false := by
  obtain ⟨m, hm, hle, -⟩ := percentOf_eq hh
  obtain ⟨hlow, hhigh⟩ := percent_in_range hle
  rw [toRH_eq_percentOf hh, hm]
  exact ⟨nofun, hlow, hhigh⟩

end Sys2Proof.Machine
end

section
/-!
Proofs of the statements about the clamps of the humidity chain and of `ToRH`.
-/
namespace Sys2Proof.Machine

/-- Settles O35: `HC` is the clamp of `HZ`, and its shift by 12 is the division. -/
theorem humidityClamp : Obligations.HumidityClamp := by
  intro adc t c
  refine ⟨?_, humChain_hFix_toNat adc t c, humChain_hFix_le adc t c⟩
  rw [humChain_hc, toInt_clampHumidity]

/-- Settles O36: the quotient is a magnitude up to that of 100.0, which the clamp leaves alone. -/
theorem percentIsExact : Obligations.PercentIsExact := by
  intro h hh
  obtain ⟨m, hm, -, hexact⟩ := percentOf_eq hh
  obtain ⟨-, hrange⟩ := toRH_in_range hh
  exact ⟨toRH_eq_percentOf hh, m, (toRH_eq_percentOf hh).trans hm, hexact, hrange⟩

end Sys2Proof.Machine
end

section
/-!
SUPPORT. The failed end of the humidity fetch as an equation (41_sample_unpack.md R92).
-/
namespace Sys2Proof.Machine

theorem State.fetchH_error {s : State} {e : BusErr} (he : s.nextAnswer = .error e) (k : State → State) :
    s.fetchH k = (s.dropAnswer.record (.readFailed regHumidData 2 e)).raise (.busError e) := State.memRead_error he

end Sys2Proof.Machine
end

section
/-!
Proofs of the statements about READ_HUMIDITY.
-/
namespace Sys2Proof.Machine

/-- Settles O34: the flag, then the answers to the two reads, decide the case. -/
theorem readHumidityResult : Obligations.ReadHumidityResult := by
  refine ⟨fun arg => (decode_append_eq_ok_iff _ _ _).mpr (by simp [Instr.opcode]), fun s h => ?_, fun s e h hans => ?_,
    fun s w e h hans => ?_, fun s w v h hans => ?_⟩
  · rw [exec, execReadHumidity, State.requireReady_uninitialized h]
    rfl
  · rw [exec, execReadHumidity, State.requireReady_ready h, State.tempRead_error hans.1, State.failed_eq]
    rfl
  · obtain ⟨hw, he, -⟩ := hans
    rw [exec, execReadHumidity, State.requireReady_ready h, State.tempRead_ok hw,
      State.fetchH_error ((State.nextAnswer_sampled_fineTemp ..).trans he), State.failed_eq,
      State.dropAnswer_sampled_fineTemp]
    simp [State.sampled_fineTemp_eq, State.dropAnswers, regTempData, regHumidData]
  · obtain ⟨hw, hv, -⟩ := hans
    rw [exec, execReadHumidity, State.requireReady_ready h, State.tempRead_ok hw,
      State.fetchH_ok ((State.nextAnswer_sampled_fineTemp ..).trans hv), State.sampled_eq (State.fineTemp _),
      State.dropAnswer_sampled_fineTemp]
    simp [State.sampled_fineTemp_eq, State.setHum, State.setF0, State.respond, State.dropAnswers, regTempData, regHumidData]

/-- Settles O37: by O34 each failed fetch ends in its error, and both answered, the response is `ToRH` of a clamped `H_FIX`. -/
theorem humidityResponseIsAPercentage : Obligations.HumidityResponseIsAPercentage := by
  intro s h
  obtain ⟨-, -, htempError, hhumError, hok⟩ := readHumidityResult
  cases hw : s.nextAnswer with
  | error e => exact ⟨_, _, htempError s e h ⟨hw, trivial⟩, rfl, .inl ⟨e, rfl⟩⟩
  | ok w =>
    cases hv : s.dropAnswer.nextAnswer with
    | error e => exact ⟨_, _, hhumError s w e h ⟨hw, hv, trivial⟩, rfl, .inl ⟨e, rfl⟩⟩
    | ok v =>
      exact ⟨_, _, hok s w v h ⟨hw, hv, trivial⟩, rfl, .inr ⟨_, rfl, toRH_in_range (humChain_hFix_le _ _ _)⟩⟩

end Sys2Proof.Machine
end

section
/-!
SUPPORT. The humidity chain with the example coefficients and fine temperature 128422, as a function of the sample
(44_humidity.md R126, R131).
-/
namespace Sys2Proof.Machine

/-- The coefficients H1 to H6 of R126; the chain reads no others. -/
def exampleHumCal : Calibration :=
  { (default : Calibration) with h1 := 75#8, h2 := 367#16, h3 := 0#8, h4 := 301#16, h5 := 50#16, h6 := 30#8 }

/-- `CompH` in unbounded integers with the example coefficients. -/
def exampleHum (adc : Nat) : Int := exactHum adc 128422 exampleHumCal

theorem exactHa_example (adc : Int) : exactHa adc 51622 exampleHumCal = (adc * 2 ^ 14 - 318186092) / 2 ^ 15 := by
  have h4 : exampleHumCal.h4.toInt = 301 := by decide
  have h5 : exampleHumCal.h5.toInt = 50 := by decide
  rw [exactHa, h4, h5]
  omega

theorem exactHx_example (adc : Int) :
    exactHx adc 51622 exampleHumCal = (adc * 2 ^ 14 - 318186092) / 2 ^ 15 * 48060 := by
  have hHb : exactHb 51622 exampleHumCal = 48060 := by decide
  rw [exactHx, exactHa_example, hHb]

theorem exactHy_example (adc : Int) : exactHy adc 51622 exampleHumCal =
    (exactHx adc 51622 exampleHumCal / 2 ^ 15) * (exactHx adc 51622 exampleHumCal / 2 ^ 15) / 2 ^ 7 * 75 / 2 ^ 4 := rfl

theorem exactHx_example_bounds {adc : Nat} (hadc : adc ≤ 65535) :
    -14243 ≤ exactHx adc 51622 exampleHumCal / 2 ^ 15 ∧ exactHx adc 51622 exampleHumCal / 2 ^ 15 ≤ 33817 := by
  rw [exactHx_example]
  omega

/-- A larger `HX` is 48060 larger at least, and `HY` rises by less than 2500 for each 2^15 of it: two values of `HX >> 15` add
up to 67634 at most. -/
theorem exampleHz_mono {a b : Nat} (hab : a ≤ b) (hb : b ≤ 65535) :
    exactHx a 51622 exampleHumCal - exactHy a 51622 exampleHumCal ≤
      exactHx b 51622 exampleHumCal - exactHy b 51622 exampleHumCal := by
  obtain ⟨haLo, haHi⟩ := exactHx_example_bounds (hab.trans hb)
  obtain ⟨hbLo, hbHi⟩ := exactHx_example_bounds hb
  have hstep : exactHx a 51622 exampleHumCal = exactHx b 51622 exampleHumCal ∨
      exactHx a 51622 exampleHumCal + 48060 ≤ exactHx b 51622 exampleHumCal := by
    rw [exactHx_example, exactHx_example]
    omega
  rw [exactHy_example, exactHy_example]
  generalize exactHx a 51622 exampleHumCal = xa at *
  generalize exactHx b 51622 exampleHumCal = xb at *
  rcases hstep with rfl | hlt
  · exact le_rfl
  · have hsq : (xb / 2 ^ 15) * (xb / 2 ^ 15) ≤ (xa / 2 ^ 15) * (xa / 2 ^ 15) + 67634 * (xb / 2 ^ 15 - xa / 2 ^ 15) := by
      have hrise : 0 ≤ xb / 2 ^ 15 - xa / 2 ^ 15 := by omega
      have hsum : 0 ≤ 67634 - (xb / 2 ^ 15 + xa / 2 ^ 15) := by omega
      linarith [mul_nonneg hrise hsum]
    omega

theorem exampleHum_eq (adc : Nat) : exampleHum adc =
    max 0 (min 419430400 (exactHx adc 51622 exampleHumCal - exactHy adc 51622 exampleHumCal)) / 2 ^ 12 := by
  rw [exampleHum, exactHum, show (128422 : Int) - 76800 = 51622 from rfl]
  omega

theorem exampleHum_mono {a b : Nat} (hab : a ≤ b) (hb : b ≤ 65535) : exampleHum a ≤ exampleHum b := by
  have hmono := exampleHz_mono hab hb
  rw [exampleHum_eq, exampleHum_eq]
  omega

theorem exampleHum_range (adc : Nat) : 0 ≤ exampleHum adc ∧ exampleHum adc ≤ 102400 := by
  rw [exampleHum_eq]
  omega

theorem exampleHum_eq_zero_iff {a : Nat} (ha : a ≤ 65535) : exampleHum a = 0 ↔ a ≤ 19422 := by
  have hlast : exampleHum 19422 = 0 := by decide
  have habove : 0 < exampleHum 19423 := by decide
  constructor
  · intro hzero
    by_contra! h
    exact absurd (exampleHum_mono (a := 19423) h ha) (by omega)
  · intro h
    exact le_antisymm ((exampleHum_mono h (by decide)).trans_eq hlast) (exampleHum_range a).1

theorem exampleHum_eq_full_iff {a : Nat} (ha : a ≤ 65535) : exampleHum a = 102400 ↔ 37133 ≤ a := by
  have hbelow : exampleHum 37132 < 102400 := by decide
  have hfirst : exampleHum 37133 = 102400 := by decide
  constructor
  · intro hfull
    by_contra! h
    exact absurd (exampleHum_mono (Nat.le_of_lt_succ h) (by decide)) (by omega)
  · intro h
    exact le_antisymm (exampleHum_range a).2 (hfirst.symm.trans_le (exampleHum_mono h ha))

/-- The example is inside `NOVF_H` for every sample (R129): only `HA`, `HX` and `HY` depend on it. -/
theorem novfH_example {adc : Nat} (hadc : adc ≤ 65535) : NovfH adc 128422 exampleHumCal := by
  obtain ⟨hlo, hhi⟩ := exactHx_example_bounds hadc
  have hsqLo := mul_self_nonneg (exactHx adc 51622 exampleHumCal / 2 ^ 15)
  simp only [NovfH, humResults, List.forall_mem_cons, show (128422 : Int) - 76800 = 51622 from rfl, exactHy_example,
    show exampleHumCal.h4.toInt = 301 by decide, show exampleHumCal.h5.toInt = 50 by decide,
    show exampleHumCal.h1.toNat = 75 by decide, fits]
  generalize exactHx adc 51622 exampleHumCal = x at *
  have hsq : x / 2 ^ 15 * (x / 2 ^ 15) ≤ 33817 * 33817 := by
    rw [← sq, ← sq]
    exact sq_le_sq' (by omega) hhi
  refine ⟨by decide, ?_, by decide, ?_, by decide, ?_, ?_, by decide, by decide, by decide, by decide, by decide, by decide,
    by decide, ?_, ?_, ?_, ?_, List.forall_mem_nil _⟩
  all_goals omega

theorem humChain_example {c : Calibration} (h1 : c.h1 = 75#8) (h2 : c.h2 = 367#16) (h3 : c.h3 = 0#8) (h4 : c.h4 = 301#16)
    (h5 : c.h5 = 50#16) (h6 : c.h6 = 30#8) (adc t : BitVec 32) : humChain adc t c = humChain adc t exampleHumCal := by
  cases c
  subst h1 h2 h3 h4 h5 h6
  rfl

theorem humChain_example_hFix {adc : BitVec 32} (hadc : adc.toNat ≤ 65535) :
    ((humChain adc 128422#32 exampleHumCal).hFix.toNat : Int) = exampleHum adc.toNat :=
  humidityChainExactInsideNovf adc 128422#32 exampleHumCal (novfH_example hadc)

end Sys2Proof.Machine
end

section
/-!
Proof of the statement about the example of 44_humidity.md R131.
-/
namespace Sys2Proof.Machine

/-- Settles O39: the example is inside `NOVF_H`, so `H_FIX` is its unbounded value. -/
theorem exampleHumidityIsMonotone : Obligations.ExampleHumidityIsMonotone := by
  intro c h1 h2 h3 h4 h5 h6
  simp only [humChain_example h1 h2 h3 h4 h5 h6]
  refine ⟨fun a b hab hb => ?_, fun a ha => ⟨?_, ?_⟩, by decide, by decide⟩
  · have hmono := exampleHum_mono hab hb
    rw [← humChain_example_hFix (hab.trans hb), ← humChain_example_hFix hb] at hmono
    exact_mod_cast hmono
  · rw [← exampleHum_eq_zero_iff ha, ← humChain_example_hFix ha]
    norm_cast
  · rw [← exampleHum_eq_full_iff ha, ← humChain_example_hFix ha]
    norm_cast

end Sys2Proof.Machine
end

section
/-!
SUPPORT. The quotients of 45_altitude.md R143 and R144: special operands of `fdiv` (00_scope.md R13).
-/
namespace Sys2Proof.Flt

theorem round_zero (neg : Bool) {den : Nat} (hden : 0 < den) : round neg 0 den = zero neg := by
  rw [round, roundMag_eq_of_units hden (m := 0) (by simp), ofMag_of_lt (by decide), zero]

/-- The quotient of equal integers is that of 1 and 1. -/
theorem round_self {n : Nat} (hn : 0 < n) : round false n n = c1 := by
  calc round false n n
      = round false (1 * n) (1 * n) := by rw [one_mul]
    _ = round false 1 1 := round_mul_right _ _ _ hn

theorem units_pos {m : Nat} (hm : 0 < m) : 0 < units m := by
  rw [← units_zero]
  exact units_strictMono hm

theorem fdiv_nan (p : Flt) : fdiv p .nan = .nan := by cases p <;> rfl

theorem fdiv_zero_zero (a b : Bool) : fdiv (zero a) (zero b) = .nan := rfl

end Sys2Proof.Flt

namespace Sys2Proof.Machine

theorem positiveFinite_iff (p : Flt) : positiveFinite p = true ↔ ∃ m : Fin 9218868437227405312, 0 < m.val ∧ p = .fin false m := by
  constructor
  · intro h
    match p, h with
    | .fin false m, h => exact ⟨m, of_decide_eq_true h, rfl⟩
  · rintro ⟨m, hm, rfl⟩
    exact decide_eq_true hm

theorem negativeFinite_iff (p : Flt) : negativeFinite p = true ↔ ∃ m : Fin 9218868437227405312, 0 < m.val ∧ p = .fin true m := by
  constructor
  · intro h
    match p, h with
    | .fin true m, h => exact ⟨m, of_decide_eq_true h, rfl⟩
  · rintro ⟨m, hm, rfl⟩
    exact decide_eq_true hm

theorem fdiv_zero_positive {s : Flt} (hs : positiveFinite s = true) : Flt.fdiv (Flt.zero false) s = Flt.zero false := by
  obtain ⟨m, hm, rfl⟩ := (positiveFinite_iff s).mp hs
  rw [Flt.zero, Flt.fdiv_fin_fin _ _ _ hm.ne', Flt.units_zero, Flt.round_zero _ (Flt.units_pos hm)]
  rfl

theorem fdiv_positive_zero {p : Flt} (hp : positiveFinite p = true) (neg : Bool) : Flt.fdiv p (Flt.zero neg) = .inf neg := by
  obtain ⟨m, hm, rfl⟩ := (positiveFinite_iff p).mp hp
  simp [Flt.zero, Flt.fdiv, hm.ne']

theorem fdiv_positive_inf {p : Flt} (hp : positiveFinite p = true) (neg : Bool) : Flt.fdiv p (.inf neg) = Flt.zero neg := by
  obtain ⟨m, -, rfl⟩ := (positiveFinite_iff p).mp hp
  simp [Flt.fdiv]

/-- A finite value other than zero divided by itself: the signs cancel, and the quotient is 1. -/
theorem fdiv_self {p : Flt} (hp : positiveFinite p = true ∨ negativeFinite p = true) : Flt.fdiv p p = Flt.c1 := by
  obtain ⟨neg, m, hm, rfl⟩ : ∃ (neg : Bool) (m : Fin 9218868437227405312), 0 < m.val ∧ p = .fin neg m :=
    hp.elim (fun h => ⟨false, (positiveFinite_iff p).mp h⟩) (fun h => ⟨true, (negativeFinite_iff p).mp h⟩)
  rw [Flt.fdiv_fin_fin _ _ _ hm.ne', Bool.xor_self, Flt.round_self (Flt.units_pos hm)]

end Sys2Proof.Machine
end

section
/-!
SUPPORT. `Altitude` as a function of its ratio (45_altitude.md R141): its power is one of P2 to P5, and the last two
operations of the formula run on a constant.
-/
namespace Sys2Proof.Machine

/-! What P3 to P5 ask of the exponent. -/

theorem positiveFinite_exponentE : positiveFinite exponentE = true := by rw [exponentE_eq]; rfl

theorem zero_lt_exponentE : (Flt.zero false).lt exponentE = true := by decide +kernel

theorem fractional_exponentE : fractional exponentE = true := by decide +kernel

theorem exponentE_ne_zero (neg : Bool) : exponentE ≠ Flt.zero neg := by
  rw [exponentE_eq, Flt.zero, ne_eq, Flt.fin.injEq]
  exact fun h => absurd h.2 (by decide)

theorem altitude_eq (p s : Flt) : altitude p s = altitudeScale (altitudeRest (pow (Flt.fdiv p s) exponentE)) := rfl

theorem altitude_of_ratio_one {p s : Flt} (h : Flt.fdiv p s = Flt.c1) : altitude p s = Flt.zero false := by
  rw [altitude_eq, h, pow_one_base]
  decide +kernel

theorem altitude_of_ratio_zero {p s : Flt} (h : Flt.fdiv p s = Flt.zero false) : altitude p s = Flt.c44330 := by
  rw [altitude_eq, h, pow_zero_base positiveFinite_exponentE]
  decide +kernel

theorem altitude_of_ratio_inf {p s : Flt} (h : Flt.fdiv p s = .inf false) : altitude p s = .inf true := by
  rw [altitude_eq, h, pow_inf_base zero_lt_exponentE]
  decide +kernel

/-- A NaN goes through the last two operations. -/
theorem altitude_of_power_nan {p s : Flt} (h : pow (Flt.fdiv p s) exponentE = .nan) : altitude p s = .nan := by
  rw [altitude_eq, h]
  decide +kernel

theorem altitude_of_ratio_negative {p s : Flt} (h : negativeFinite (Flt.fdiv p s) = true) : altitude p s = .nan :=
  altitude_of_power_nan (pow_negative_base h fractional_exponentE)

theorem altitude_of_ratio_nan {p s : Flt} (h : Flt.fdiv p s = .nan) : altitude p s = .nan :=
  altitude_of_power_nan (by rw [h, pow_nan_base (exponentE_ne_zero false) (exponentE_ne_zero true)])

/-- The engine writes `F1`, then `F0`, and responds; nothing else changes (R141). -/
theorem State.altitudeEngine_eq (s : State) (sea : Flt) :
    let power := pow (Flt.fdiv s.f0 sea) exponentE
    s.altitudeEngine sea = { s with
      f0 := Flt.fsub Flt.c1 power, f1 := power
      responses := s.responses ++ [.value (Flt.fmul Flt.c44330 (Flt.fsub Flt.c1 power))] } := by
  simp only [State.altitudeEngine, State.setF0, State.setF1, State.respond, altitudeRatio, altitudePower, altitudeRest,
    altitudeScale]

end Sys2Proof.Machine
end

section
/-!
Proofs of the statements about the altitude engine and READ_ALTITUDE.
-/
namespace Sys2Proof.Machine

/-- Settles O41: each row by its ratio. -/
theorem altitudeOfSpecialOperands : Obligations.AltitudeOfSpecialOperands := by
  refine ⟨?_, ?_, ?_, fun p s => altitude_of_ratio_negative, ?_, ?_, fun p s => altitude_of_ratio_zero,
    fun p s => altitude_of_ratio_inf, ?_⟩
  · rintro p s rfl hs
    exact altitude_of_ratio_zero (fdiv_zero_positive hs)
  · exact fun p hp => altitude_of_ratio_inf (fdiv_positive_zero hp false)
  · exact fun z => altitude_of_ratio_nan (Flt.fdiv_zero_zero false z)
  · exact fun p => altitude_of_ratio_nan (Flt.fdiv_nan p)
  · exact fun p hp => altitude_of_ratio_zero (fdiv_positive_inf hp false)
  · exact fun p hp => ⟨fdiv_positive_zero hp true, fdiv_positive_inf hp true⟩

/-- Settles O42: the ratio is 1.0, which every power keeps (P2). -/
theorem altitudeIsZeroAtSeaLevelPressure : Obligations.AltitudeIsZeroAtSeaLevelPressure :=
  fun _ hp => altitude_of_ratio_one (fdiv_self hp)

/-- Settles O40: the flag, then the answers to the two reads, decide the case; the engine writes `F0` and `F1` alone. -/
theorem readAltitudeResult : Obligations.ReadAltitudeResult := by
  refine ⟨fun arg => (decode_append_eq_ok_iff _ _ _).mpr ⟨rfl, fun _ => rfl⟩, fun arg s h => ?_, fun arg s e h hans => ?_,
    fun arg s w e h hans => ?_, fun arg s w v h hans => ?_⟩
  · rw [exec, execReadAltitude, State.requireReady_uninitialized h]
    rfl
  · rw [exec, execReadAltitude, State.requireReady_ready h, State.pressRead_temp_error hans.1]
    rfl
  · rw [exec, execReadAltitude, State.requireReady_ready h, State.pressRead_press_error hans]
    rfl
  · rw [exec, execReadAltitude, State.requireReady_ready h, State.pressRead_ok hans]
    simp [State.altitudeEngine_eq, State.setF0, seaLevel, regTempData, regPressureData]

end Sys2Proof.Machine
end

section
/-!
How a command ends: after transactions that were all answered it responds, or the next one fails, or it has finished a SETUP
(60_exceptions.md R150 to R158, R170).
-/
namespace Sys2Proof.Machine

/-- A command begun in `s` has come to `u` by answered transactions of R170, with no response yet and `INIT` as it was. -/
structure State.TransactedFrom (s u : State) : Prop where
  params : u.params = s.params
  init : u.init = s.init
  responses : u.responses = s.responses
  history : ∃ evs, u.history = s.history ++ evs ∧ ∀ b ∈ evs, accessAllowed s.params b = true ∧ b.failure = none

/-- The responses `i`, begun in `s`, may give while no transaction has failed. The `Ok` of SETUP is not among them: it
comes with the coefficients and `INIT`. -/
def State.mayRespond (i : Instr) (s : State) : Response → Prop
  | .ok => i ≠ .setup
  | .value _ => True
  | .err .deviceNotFound => True
  | .err .resetTimeout => True
  | .err (.busError _) => False
  | .err .notInitialized => measurement i = true ∧ s.init = false

/-- The three ways a command `i`, begun in `s`, can end. -/
inductive State.AnsweredFrom (s : State) : Instr → State → Prop
  | responded {i : Instr} {u : State} {r : Response} (h : s.TransactedFrom u) (hr : s.mayRespond i r) :
      s.AnsweredFrom i (u.respond r)
  | failed {i : Instr} {u : State} {b : BusEvent} {e : BusErr} (h : s.TransactedFrom u)
      (hb : accessAllowed s.params b = true) (he : b.failure = some e) :
      s.AnsweredFrom i ((u.dropAnswer.record b).raise (.busError e))
  | configured {u : State} {wa wb : Window} (h : s.TransactedFrom u) (hcal : (u.finishSetup wa wb).calFromBus) :
      s.AnsweredFrom .setup (u.finishSetup wa wb)

theorem State.transactedFrom_self (s : State) : s.TransactedFrom s := ⟨rfl, rfl, rfl, [], (List.append_nil _).symm, by simp⟩

/-- A read that is given its bytes is an access of its length. -/
theorem accessAllowed_read {p : Params} {addr : Byte} {n : Nat} (w : Window) (hn : n ≤ maxRead) :
    accessAllowed p (.read addr (w.val.take n)) = readAllowed p addr n := by
  rw [accessAllowed, List.length_take, w.property, Nat.min_eq_left hn]

namespace State.TransactedFrom
variable {i : Instr} {s u : State}

theorem transaction (h : s.TransactedFrom u) {b : BusEvent} (hb : accessAllowed s.params b = true) (hok : b.failure = none) :
    s.TransactedFrom (u.dropAnswer.record b) := by
  obtain ⟨hparams, hinit, hresponses, evs, hevs, hall⟩ := h
  refine ⟨by simpa using hparams, by simpa using hinit, by simpa using hresponses, evs ++ [b], by simp [hevs], ?_⟩
  exact List.forall_mem_append.mpr ⟨hall, List.forall_mem_singleton.mpr ⟨hb, hok⟩⟩

theorem respond_responses_iff (h : s.TransactedFrom u) (r q : Response) :
    (u.respond r).responses = s.responses ++ [q] ↔ r = q := by simp [h.responses]

/-! Writes of `RAW` and of the working registers. -/

theorem setRaw (h : s.TransactedFrom u) (v : BitVec 32) : s.TransactedFrom (u.setRaw v) := { h with }
theorem fineTemp (h : s.TransactedFrom u) : s.TransactedFrom u.fineTemp := { h with }
theorem setPress (h : s.TransactedFrom u) (r : PressRegs) : s.TransactedFrom (u.setPress r) := { h with }
theorem setHum (h : s.TransactedFrom u) (r : HumRegs) : s.TransactedFrom (u.setHum r) := { h with }
theorem setF0 (h : s.TransactedFrom u) (v : Flt) : s.TransactedFrom (u.setF0 v) := { h with }
theorem setF1 (h : s.TransactedFrom u) (v : Flt) : s.TransactedFrom (u.setF1 v) := { h with }

/-! The operations that can raise: the rest of the command ends so, or the error does. -/

theorem memRead (h : s.TransactedFrom u) {addr : Byte} {n : Nat} {hn : n ≤ maxRead} {k : (Fin n → Byte) → State → State}
    (haddr : readAllowed s.params addr n = true)
    (hk : ∀ w : Window, s.TransactedFrom (u.dropAnswer.record (.read addr (w.val.take n))) →
      s.AnsweredFrom i (k (Window.get w hn) (u.dropAnswer.record (.read addr (w.val.take n))))) :
    s.AnsweredFrom i (u.memRead addr n hn k) :=
  State.memRead_induct (fun w _ => hk w (h.transaction (by rwa [accessAllowed_read w hn]) rfl)) fun _ _ => .failed h haddr rfl

theorem memWrite (h : s.TransactedFrom u) {addr v : Byte} {k : State → State} (haddr : writeAllowed s.params addr v = true)
    (hk : s.TransactedFrom (u.dropAnswer.record (.wrote addr v)) → s.AnsweredFrom i (k (u.dropAnswer.record (.wrote addr v)))) :
    s.AnsweredFrom i (u.memWrite addr v k) :=
  State.memWrite_induct (fun _ _ => hk (h.transaction haddr rfl)) fun _ _ => .failed h haddr rfl

theorem resetSeq (h : s.TransactedFrom u) {k : State → State} (hk : ∀ v, s.TransactedFrom v → s.AnsweredFrom i (k v)) :
    s.AnsweredFrom i (u.resetSeq k) := by
  have hprobe : ∀ v : State, s.TransactedFrom v → readAllowed s.params v.params.readyReg 1 = true :=
    fun v hv => by simp [readAllowed, hv.params]
  refine h.memWrite (by simp [writeAllowed, regSoftReset, h.params]) fun h => ?_
  refine State.pollReady_induct (fun v w hv _ => hv.transaction ?_ rfl) hk (fun v e hv _ => .failed hv (hprobe v hv) rfl)
    (fun v hv => .responded hv trivial) _ _ h
  rw [accessAllowed_read w (by decide)]
  exact hprobe v hv

/-- Steps 4 to 7 of SETUP: the five transactions before the last step are those the coefficients come from (R80). -/
theorem loadAndConfigure (h : s.TransactedFrom u) : s.AnsweredFrom .setup u.loadAndConfigure := by
  refine h.memRead (by simp [readAllowed, regDigT1]) fun wa h => ?_
  refine h.memRead (by simp [readAllowed, regCal26]) fun wb h => ?_
  refine h.memWrite (by simp [writeAllowed, regControlHumid, ← h.params]) fun h => ?_
  refine h.memWrite (by simp [writeAllowed, regControl, ← h.params]) fun h => ?_
  refine h.memWrite (by simp [writeAllowed, regConfig, ← h.params]) fun h => ?_
  refine .configured (wa := wa) (wb := wb) h ⟨u.history, wa, wb, [], ?_, by simp, rfl⟩
  simp [State.finishSetup, regDigT1, regCal26, regControlHumid, regControl, regConfig]

theorem fetchT (h : s.TransactedFrom u) {k : State → State} (hk : ∀ v, s.TransactedFrom v → s.AnsweredFrom i (k v)) :
    s.AnsweredFrom i (u.fetchT k) :=
  h.memRead (by simp [readAllowed, regTempData]) fun _ h => hk _ (h.setRaw _)

theorem fetchP (h : s.TransactedFrom u) {k : State → State} (hk : ∀ v, s.TransactedFrom v → s.AnsweredFrom i (k v)) :
    s.AnsweredFrom i (u.fetchP k) :=
  h.memRead (by simp [readAllowed, regPressureData]) fun _ h => hk _ (h.setRaw _)

theorem fetchH (h : s.TransactedFrom u) {k : State → State} (hk : ∀ v, s.TransactedFrom v → s.AnsweredFrom i (k v)) :
    s.AnsweredFrom i (u.fetchH k) :=
  h.memRead (by simp [readAllowed, regHumidData]) fun _ h => hk _ (h.setRaw _)

theorem tempRead (h : s.TransactedFrom u) {k : State → State} (hk : ∀ v, s.TransactedFrom v → s.AnsweredFrom i (k v)) :
    s.AnsweredFrom i (u.tempRead k) :=
  h.fetchT fun _ h => hk _ h.fineTemp

theorem pressRead (h : s.TransactedFrom u) {k : State → State} (hk : ∀ v, s.TransactedFrom v → s.AnsweredFrom i (k v)) :
    s.AnsweredFrom i (u.pressRead k) :=
  h.tempRead fun _ h => h.fetchP fun _ h => hk _ (h.setPress _)

end State.TransactedFrom

theorem State.AnsweredFrom.requireReady {i : Instr} {s : State} {k : State → State} (hi : measurement i = true)
    (hk : s.AnsweredFrom i (k s)) : s.AnsweredFrom i (s.requireReady k) :=
  State.requireReady_induct (fun _ => hk) fun hinit => .responded s.transactedFrom_self ⟨hi, hinit⟩

theorem State.setup_answeredFrom (s : State) : (s.setInit false).AnsweredFrom .setup s.setup := by
  refine (s.setInit false).transactedFrom_self.memRead (by simp [readAllowed, regChipId]) fun id h => ?_
  split
  · exact h.resetSeq fun _ h => h.loadAndConfigure
  · exact .responded h trivial

/-- The state a command transacts from: SETUP and SOFT_RESET first clear `INIT` (40_setup_calibration.md R72, R73). -/
def State.begun (s : State) (i : Instr) : State := if measurement i then s else s.setInit false

@[simp] theorem State.begun_params (s : State) (i : Instr) : (s.begun i).params = s.params := by
  unfold State.begun; split <;> rfl
@[simp] theorem State.begun_responses (s : State) (i : Instr) : (s.begun i).responses = s.responses := by
  unfold State.begun; split <;> rfl
@[simp] theorem State.begun_history (s : State) (i : Instr) : (s.begun i).history = s.history := by
  unfold State.begun; split <;> rfl

/-- Every command ends in one of the three ways, whatever the bus answers. -/
theorem exec_answeredFrom {i : Instr} {s t : State} (h : exec i s = .next t) : (s.begun i).AnsweredFrom i t := by
  have hself := s.transactedFrom_self
  cases i with
  | setup =>
    cases h
    exact s.setup_answeredFrom
  | softReset =>
    cases h
    exact (s.setInit false).transactedFrom_self.resetSeq fun _ h => .responded h nofun
  | readTemperature =>
    cases h
    exact .requireReady rfl <| hself.tempRead fun _ h => .responded h trivial
  | readPressure =>
    cases h
    exact .requireReady rfl <| hself.pressRead fun _ h => .responded h trivial
  | readHumidity =>
    cases h
    exact .requireReady rfl <| hself.tempRead fun _ h => h.fetchH fun _ h => .responded ((h.setHum _).setF0 _) trivial
  | readAltitude arg =>
    cases h
    exact .requireReady rfl <| hself.pressRead fun _ h => .responded ((((h.setF0 _).setF0 _).setF1 _).setF0 _) trivial

namespace State.AnsweredFrom
variable {i : Instr} {s t : State}

/-! What the three ends have in common, and what tells them apart. -/

theorem params (h : s.AnsweredFrom i t) : t.params = s.params := by
  cases h with
  | responded h => exact h.params
  | failed h => simpa using h.params
  | configured h => exact h.params

theorem exists_history (h : s.AnsweredFrom i t) :
    ∃ evs, t.history = s.history ++ evs ∧ ∀ b ∈ evs, accessAllowed s.params b = true := by
  cases h with
  | responded h => exact h.history.imp fun _ ⟨hevs, hall⟩ => ⟨hevs, fun b hb => (hall b hb).1⟩
  | @failed _ _ b _ h hb =>
    obtain ⟨evs, hevs, hall⟩ := h.history
    refine ⟨evs ++ [b], by simp [hevs], ?_⟩
    exact List.forall_mem_append.mpr ⟨fun b hb => (hall b hb).1, List.forall_mem_singleton.mpr hb⟩
  | configured h => exact h.history.imp fun _ ⟨hevs, hall⟩ => ⟨hevs, fun b hb => (hall b hb).1⟩

/-- A failed transaction is the last of its command, and its payload is the response's (R153). -/
theorem precise (h : s.AnsweredFrom i t) :
    ∃ evs r, t.history = s.history ++ evs ∧ t.responses = s.responses ++ [r] ∧
      (∀ e, r = .err (.busError e) → ∃ before last, evs = before ++ [last] ∧ last.failure = some e ∧
        ∀ b ∈ before, b.failure = none) ∧
      ((∀ e, r ≠ .err (.busError e)) → ∀ b ∈ evs, b.failure = none) := by
  cases h with
  | @responded _ u r h hr =>
    obtain ⟨evs, hevs, hall⟩ := h.history
    refine ⟨evs, r, hevs, (h.respond_responses_iff r r).mpr rfl, ?_, fun _ b hb => (hall b hb).2⟩
    rintro e rfl
    exact hr.elim
  | @failed _ u b e h _ he =>
    obtain ⟨evs, hevs, hall⟩ := h.history
    refine ⟨evs ++ [b], .err (.busError e), by simp [hevs], by simp [h.responses], ?_, fun hne => absurd rfl (hne e)⟩
    rintro _ ⟨⟩
    exact ⟨evs, b, rfl, he, fun b hb => (hall b hb).2⟩
  | configured h =>
    obtain ⟨evs, hevs, hall⟩ := h.history
    exact ⟨evs, .ok, hevs, (h.respond_responses_iff .ok .ok).mpr rfl, nofun, fun _ b hb => (hall b hb).2⟩

/-- NotInitialized is raised by a measurement command in the Uninitialized state alone (R154). -/
theorem notInitialized (h : s.AnsweredFrom i t) (ht : t.responses = s.responses ++ [.err .notInitialized]) :
    measurement i = true ∧ s.init = false := by
  cases h with
  | responded h hr =>
    obtain rfl := (h.respond_responses_iff _ _).mp ht
    exact hr
  | failed h => simp [h.responses] at ht
  | configured h => cases (h.respond_responses_iff _ _).mp ht

/-- A SETUP ends Ready exactly where it responds `Ok` (R161). -/
theorem setup_ready_iff (h : s.AnsweredFrom .setup t) (hs : s.init = false) :
    t.init = true ↔ t.responses = s.responses ++ [.ok] := by
  cases h with
  | @responded _ u r h hr =>
    have hne : r ≠ .ok := by rintro rfl; exact hr rfl
    exact iff_of_false (by simp [h.init, hs]) (mt (h.respond_responses_iff r .ok).mp hne)
  | failed h => exact iff_of_false (by simp [h.init, hs]) (by simp [h.responses])
  | configured h => exact iff_of_true rfl ((h.respond_responses_iff .ok .ok).mpr rfl)

/-- `INIT` changes only to Ready, at the end of a SETUP (R161). -/
theorem init (h : s.AnsweredFrom i t) : t.init = s.init ∨ (t.init = true ∧ t.calFromBus) := by
  cases h with
  | responded h => exact .inl h.init
  | failed h => exact .inl (by simpa using h.init)
  | configured h hcal => exact .inr ⟨rfl, hcal⟩

end State.AnsweredFrom
end Sys2Proof.Machine
end

section
/-!
The invariant: where the coefficients of the Ready state come from, and that every command and every step keep it
(10_state.md R20, 40_setup_calibration.md R80, 60_exceptions.md R170).
-/
namespace Sys2Proof.Machine

theorem packedInRange_packed12 (g : Bool) (v : BitVec 12) : packedInRange g (packed12 g v) := by
  have := v.isLt
  cases g with
  | false => rw [packedInRange, toInt_packed12_unset, if_neg Bool.false_ne_true]; omega
  | true => rw [packedInRange, toInt_packed12_set, if_pos rfl]; split <;> omega

/-- Decoded coefficients are in their ranges. -/
theorem State.calFromBus.packedInRange {s : State} (h : s.calFromBus) :
    packedInRange s.params.h45Signed12 s.cal.h4 ∧ packedInRange s.params.h45Signed12 s.cal.h5 := by
  obtain ⟨_, wa, wb, _, -, -, hcal⟩ := h
  rw [hcal, calDecode_h4, calDecode_h5]
  exact ⟨packedInRange_packed12 _ _, packedInRange_packed12 _ _⟩

/-- Sample fetches after the last SETUP leave the coefficients those of its blocks. -/
theorem State.MeasuredFrom.calFromBus {s t : State} {i : Instr} {n : Nat} (h : s.MeasuredFrom i n t) (hcal : s.calFromBus) :
    t.calFromBus := by
  obtain ⟨before, wa, wb, after, hhistory, hafter, hdecode⟩ := hcal
  obtain ⟨evs, hevs, -, hsample⟩ := h.history
  refine ⟨before, wa, wb, after ++ evs, ?_, List.forall_mem_append.mpr ⟨hafter, hsample⟩, ?_⟩
  · rw [hevs, hhistory, h.params, List.append_assoc]
  · rw [h.cal, h.params, hdecode]

theorem State.begun_of_measurement {i : Instr} (hi : measurement i = true) (s : State) : s.begun i = s := if_pos hi

theorem State.begun_init_of_not_measurement {i : Instr} (hi : measurement i = false) (s : State) : (s.begun i).init = false := by
  rw [State.begun, if_neg (by simp [hi])]; rfl

/-- A command that ends Ready has coefficients from the bus: a measurement command the old ones, SETUP new ones. -/
theorem exec_calFromBus {i : Instr} {s t : State} (h : exec i s = .next t) (hs : s.init = true → s.calFromBus)
    (ht : t.init = true) : t.calFromBus := by
  cases hi : measurement i with
  | true =>
    have hframe := exec_measuredFrom hi h
    exact hframe.calFromBus (hs (hframe.init ▸ ht))
  | false =>
    obtain hinit | ⟨-, hcal⟩ := (exec_answeredFrom h).init
    · rw [State.begun_init_of_not_measurement hi, ht] at hinit
      cases hinit
    · exact hcal

/-- Every command keeps the invariant. -/
theorem exec_inv {i : Instr} {s t : State} (hs : s.Inv) (h : exec i s = .next t) : t.Inv := by
  obtain ⟨hwf, haccess, hready⟩ := hs
  have hans := exec_answeredFrom h
  have hparams : t.params = s.params := by simpa using hans.params
  refine ⟨hparams ▸ hwf, ?_, fun ht => ?_⟩
  · obtain ⟨evs, hevs, hall⟩ := hans.exists_history
    rw [hevs, hparams]
    exact List.forall_mem_append.mpr ⟨by simpa using haccess, by simpa using hall⟩
  · have hcal := exec_calFromBus h (fun hinit => (hready hinit).2.2) ht
    exact ⟨hcal.packedInRange.1, hcal.packedInRange.2, hcal⟩

/-- What a step that answers can do: nothing, power-on, or a command. -/
theorem step_next_cases {s t : State} (h : step s = .next t) :
    (s.events = [] ∧ t = s) ∨
    (∃ rest, s.events = .powerOn :: rest ∧ t = (s.setEvents rest).powerOnReset) ∨
    ∃ w i rest, s.events = .command w :: rest ∧ decode w = .ok i ∧ exec i (s.setEvents rest) = .next t := by
  cases hs : s.events with
  | nil =>
    cases (step_of_nil hs).symm.trans h
    exact .inl ⟨rfl, rfl⟩
  | cons e rest =>
    rw [step_of_cons hs] at h
    cases e with
    | command w =>
      cases hw : decode w with
      | ok i => exact .inr (.inr ⟨w, i, rest, rfl, hw, (runWord_of_ok hw _).symm.trans h⟩)
      | error r =>
        obtain ⟨op⟩ := r
        cases (runWord_of_reserved hw _).symm.trans h
    | overlap w v => cases h
    | intrusion w => cases h
    | powerOn =>
      cases h
      exact .inr (.inl ⟨rest, rfl, rfl⟩)

end Sys2Proof.Machine
end

section
/-!
Ends that the answers to a SETUP or a SOFT_RESET decide, and the commands that change `INIT` (60_exceptions.md R151, R152,
R154, R161).
-/
namespace Sys2Proof.Machine

/-! The identity check and the probes (R151, R152). -/

theorem State.setup_identified {s : State} {w : Window} (hw : s.nextAnswer = .ok w)
    (hid : firstByte w = s.params.chipIdExpected) :
    s.setup = ((s.setInit false).dropAnswer.record ((BusRequest.read 0xD0#8 1).answered w)).resetSeq State.loadAndConfigure := by
  rw [State.setup, State.memRead_ok (by simpa using hw), Window.get_zero_eq_firstByte, if_pos (by simpa using hid)]
  rfl

theorem State.setup_misidentified {s : State} {w : Window} (hw : s.nextAnswer = .ok w)
    (hid : firstByte w ≠ s.params.chipIdExpected) :
    s.setup = ((s.setInit false).dropAnswer.record ((BusRequest.read 0xD0#8 1).answered w)).raise .deviceNotFound := by
  rw [State.setup, State.memRead_ok (by simpa using hw), Window.get_zero_eq_firstByte, if_neg (by simpa using hid)]
  rfl

/-- The reset write and every probe are answered, and no probe reports ready. -/
theorem State.resetSeq_timeout (k : State → State) {s : State} {wr : Window} {ps : List Window}
    (hans : s.answersBegin ((wr :: ps).map .ok)) (hlen : ps.length = s.params.resetPollMax) (hnever : neverReady s.params ps) :
    s.resetSeq k = (s.after (resetRequests s.params ps.length) (wr :: ps)).raise .resetTimeout := by
  obtain ⟨hwr, hans⟩ := hans
  rw [State.resetSeq, State.memWrite_ok hwr, State.record_params, State.dropAnswer_params, ← hlen]
  refine (State.pollReady_skip k ps 0 _ (by simpa [State.record_eq_recordAll] using hans) (by simpa using hnever)).trans ?_
  rw [resetRequests, State.after_cons, State.after, completed_probes, State.record_params, State.dropAnswer_params]
  rfl

/-! The commands that change `INIT` (R161). -/

theorem exec_softReset_init {s t : State} (h : exec .softReset s = .next t) : t.init = false :=
  (exec_endedFrom (.inr rfl) h).softReset rfl

theorem exec_setup_ready_iff {s t : State} (h : exec .setup s = .next t) :
    t.init = true ↔ t.responses = s.responses ++ [.ok] :=
  State.AnsweredFrom.setup_ready_iff (s := s.setInit false) (exec_answeredFrom h) rfl

theorem Instr.eq_setup_or_eq_softReset {i : Instr} (hi : measurement i = false) : i = .setup ∨ i = .softReset := by
  cases i with
  | setup => exact .inl rfl
  | softReset => exact .inr rfl
  | _ => cases hi

theorem exec_enters_ready {i : Instr} {s t : State} (h : exec i s = .next t) (hs : s.init = false) (ht : t.init = true) :
    i = .setup := by
  cases hi : measurement i with
  | true => exact absurd ((exec_measuredFrom hi h).init.symm.trans ht) (by simp [hs])
  | false =>
    obtain rfl | rfl := Instr.eq_setup_or_eq_softReset hi
    · rfl
    · exact absurd ht (by simp [exec_softReset_init h])

theorem exec_leaves_ready {i : Instr} {s t : State} (h : exec i s = .next t) (hs : s.init = true) (ht : t.init = false) :
    i = .setup ∨ i = .softReset := by
  refine Instr.eq_setup_or_eq_softReset (Bool.eq_false_iff.mpr fun hi => ?_)
  exact absurd ((exec_measuredFrom hi h).init.symm.trans ht) (by simp [hs])

/-! NotInitialized (R154). -/

theorem exec_of_uninitialized {i : Instr} {s : State} (hi : measurement i = true) (hs : s.init = false) :
    exec i s = .next (s.raise .notInitialized) := by
  cases i with
  | setup => cases hi
  | softReset => cases hi
  | readTemperature => rw [exec, execReadTemperature, State.requireReady_uninitialized hs]
  | readPressure => rw [exec, execReadPressure, State.requireReady_uninitialized hs]
  | readHumidity => rw [exec, execReadHumidity, State.requireReady_uninitialized hs]
  | readAltitude arg => rw [exec, execReadAltitude, State.requireReady_uninitialized hs]

end Sys2Proof.Machine
end

section
/-!
Proofs of the statements about exceptions and the invariant.
-/
namespace Sys2Proof.Machine

/-- Settles O57: power-on leaves Ready, and a command keeps the invariant whichever way it ends. -/
theorem stepKeepsInvariant : Obligations.StepKeepsInvariant := by
  intro s t hs h
  obtain ⟨-, rfl⟩ | ⟨rest, -, rfl⟩ | ⟨w, i, rest, -, -, hexec⟩ := step_next_cases h
  · exact hs
  · obtain ⟨hwf, haccess, -⟩ := hs
    exact ⟨hwf, haccess, nofun⟩
  · exact exec_inv (s := s.setEvents rest) hs hexec

/-- Settles O13: the loop runs through all its probes (`State.resetSeq_timeout`). -/
theorem resetTimeoutAfterAllProbes : Obligations.ResetTimeoutAfterAllProbes := by
  constructor
  · intro s wid wr ps hans hid hlen hnever
    obtain ⟨hwid, hans⟩ := hans
    rw [exec, execSetup, State.setup_identified hwid hid,
      State.resetSeq_timeout _ (by simpa [State.record_eq_recordAll] using hans) (by simpa using hlen) (by simpa using hnever),
      ← State.after_cons, State.after_setInit, State.after_eq]
    simp [State.setInit, State.raise, State.respond]
  · intro s wr ps hans hlen hnever
    rw [exec, execSoftReset, State.resetSeq_timeout (s := s.setInit false) _ (by simpa using hans) hlen hnever,
      State.after_setInit, State.after_eq]
    simp [State.setInit, State.raise, State.respond]

/-- Settles O52: how SETUP ends says whether `INIT` is 1; the other commands and steps by their cases. -/
theorem initChangesOnlyBySetupAndResets : Obligations.InitChangesOnlyBySetupAndResets := by
  refine ⟨fun s t => exec_setup_ready_iff, fun s t => exec_softReset_init, ?_, ?_, ?_, ?_, ?_⟩
  · intro i s t hi h
    have hframe := exec_measuredFrom hi h
    exact ⟨hframe.init, hframe.cal⟩
  · intro s t h hs ht
    obtain ⟨-, rfl⟩ | ⟨rest, -, rfl⟩ | ⟨w, i, rest, hevents, hw, hexec⟩ := step_next_cases h
    · exact absurd ht (by simp [hs])
    · cases ht
    · obtain rfl := exec_enters_ready hexec hs ht
      exact ⟨w, rest, hevents, hw, (exec_setup_ready_iff hexec).mp ht⟩
  · intro s t h hs ht
    obtain ⟨-, rfl⟩ | ⟨rest, hevents, -⟩ | ⟨w, i, rest, hevents, hw, hexec⟩ := step_next_cases h
    · exact absurd ht (by simp [hs])
    · exact ⟨.powerOn, rest, hevents, .inl rfl⟩
    · refine ⟨.command w, rest, hevents, .inr ⟨w, rfl, ?_⟩⟩
      rw [hw]
      exact (exec_leaves_ready hexec hs ht).imp (congrArg _) (congrArg _)
  · intro s t rest hevents h
    cases (step_of_cons hevents).symm.trans h
    rfl
  · intro s t hevents h
    cases (step_of_nil hevents).symm.trans h
    rfl

/-- Settles O54: the response is an error of the bus exactly where the command ended by a failed transaction. -/
theorem busErrorsArePrecise : Obligations.BusErrorsArePrecise := fun i s t h => by
  have hprecise := (exec_answeredFrom h).precise
  rwa [State.begun_history, State.begun_responses] at hprecise

/-- Settles O12: the answer to the first transaction ends the command. -/
theorem setupRejectsWrongIdentity : Obligations.SetupRejectsWrongIdentity := by
  constructor
  · intro s w hw hid
    rw [exec, execSetup, State.setup_misidentified hw hid, State.dropAnswer_of_setInit]
    simp [State.setInit, State.record, State.raise, State.respond, BusRequest.answered]
  · intro s e he
    rw [exec, execSetup, State.setup, State.memRead_error (by simpa using he), State.failed_eq, State.dropAnswer_of_setInit]
    simp [State.setInit, regChipId]

/-- Settles O51: the flag decides before any transaction, and no command raises the error at any other end. -/
theorem uninitializedMeasurementRaises : Obligations.UninitializedMeasurementRaises := by
  refine ⟨fun i s hi hs => exec_of_uninitialized hi hs, fun s => rfl, ?_, fun s t => exec_softReset_init, ?_, ?_⟩
  · intro s t h hne
    exact Bool.eq_false_iff.mpr (mt (exec_setup_ready_iff h).mp hne)
  · intro i s t hi h ht
    obtain ⟨hmeasures, -⟩ := (exec_answeredFrom h).notInitialized (by simpa using ht)
    cases hi.symm.trans hmeasures
  · intro i s t hi hs h ht
    obtain ⟨-, hinit⟩ := (exec_answeredFrom h).notInitialized (by simpa using ht)
    rw [State.begun_of_measurement hi, hs] at hinit
    cases hinit

end Sys2Proof.Machine
end

section
/-!
How many transactions a command makes: SETUP and SOFT_RESET spend a budget, of which the probes have RESET_POLL_MAX; the
measurement commands have theirs from their frame (70_reset_and_hazards.md R185).
-/
namespace Sys2Proof.Machine

/-- A command under the parameters `p` has come to `u`, and the history may have `limit` transactions when it ends: at least
`left` more may still be made. -/
structure State.MayStillMake (p : Params) (limit left : Nat) (u : State) : Prop where
  params : u.params = p
  history : u.history.length + left ≤ limit

namespace State.MayStillMake
variable {p : Params} {limit left : Nat} {u : State}

theorem mono (h : u.MayStillMake p limit left) {fewer : Nat} (hle : fewer ≤ left) : u.MayStillMake p limit fewer :=
  ⟨h.params, (Nat.add_le_add_left hle _).trans h.history⟩

theorem transaction (h : u.MayStillMake p limit (left + 1)) (e : BusEvent) :
    (u.dropAnswer.record e).MayStillMake p limit left := by
  obtain ⟨hparams, hhistory⟩ := h
  refine ⟨by simpa using hparams, ?_⟩
  rw [State.record_history, State.dropAnswer_history, List.length_append, List.length_singleton]
  omega

theorem setInit (h : u.MayStillMake p limit left) (b : Bool) : (u.setInit b).MayStillMake p limit left := { h with }
theorem setCal (h : u.MayStillMake p limit left) (c : Calibration) : (u.setCal c).MayStillMake p limit left := { h with }

/-! Ways to end, without a further transaction. -/

theorem respond (h : u.MayStillMake p limit left) (r : Response) : (u.respond r).history.length ≤ limit :=
  (Nat.le_add_right _ _).trans h.history

theorem raise (h : u.MayStillMake p limit left) (k : ErrorKind) : (u.raise k).history.length ≤ limit := h.respond _

/-! The operations that can raise: the rest of the command stays within the limit, or the error does. -/

theorem memRead (h : u.MayStillMake p limit (left + 1)) {addr : Byte} {n : Nat} {hn : n ≤ maxRead}
    {k : (Fin n → Byte) → State → State}
    (hk : ∀ b v, v.MayStillMake p limit left → (k b v).history.length ≤ limit) :
    (u.memRead addr n hn k).history.length ≤ limit :=
  State.memRead_induct (Q := fun t => t.history.length ≤ limit) (fun _ _ => hk _ _ (h.transaction _))
    fun _ _ => (h.transaction _).raise _

theorem memWrite (h : u.MayStillMake p limit (left + 1)) {addr value : Byte} {k : State → State}
    (hk : ∀ v, v.MayStillMake p limit left → (k v).history.length ≤ limit) :
    (u.memWrite addr value k).history.length ≤ limit :=
  State.memWrite_induct (Q := fun t => t.history.length ≤ limit) (fun _ _ => hk _ (h.transaction _))
    fun _ _ => (h.transaction _).raise _

/-- The loop makes at most as many transactions as it has probes; those it does not need are left over. -/
theorem pollReady {k : State → State} (hk : ∀ v, v.MayStillMake p limit left → (k v).history.length ≤ limit)
    {probes : Nat} (h : u.MayStillMake p limit (left + probes)) : (State.pollReady k probes u).history.length ≤ limit := by
  induction probes generalizing u with
  | zero => exact h.raise _
  | succ probes ih =>
    refine h.memRead fun b v hv => ?_
    split
    · exact hk v (hv.mono (Nat.le_add_right _ _))
    · exact ih hv

theorem resetSeq (h : u.MayStillMake p limit (left + p.resetPollMax + 1)) {k : State → State}
    (hk : ∀ v, v.MayStillMake p limit left → (k v).history.length ≤ limit) : (u.resetSeq k).history.length ≤ limit :=
  h.memWrite fun _ hv => pollReady hk (by rwa [hv.params])

theorem loadAndConfigure (h : u.MayStillMake p limit 5) : u.loadAndConfigure.history.length ≤ limit :=
  h.memRead fun _ _ h => h.memRead fun _ _ h => h.memWrite fun _ h => h.memWrite fun _ h => h.memWrite fun _ h =>
    ((h.setCal _).setInit _).respond _

theorem setup (h : u.MayStillMake p limit (5 + p.resetPollMax + 1 + 1)) : u.setup.history.length ≤ limit := by
  refine (h.setInit false).memRead fun id v hv => ?_
  split
  · exact hv.resetSeq fun _ h => h.loadAndConfigure
  · exact hv.raise _

end State.MayStillMake

/-- A command may make `n` transactions more than are in the history it begins with. -/
theorem State.mayStillMake_self (s : State) (n : Nat) : s.MayStillMake s.params (s.history.length + n) n := ⟨rfl, le_rfl⟩

theorem State.setup_history_length_le (s : State) :
    s.setup.history.length ≤ s.history.length + (7 + s.params.resetPollMax) :=
  State.MayStillMake.setup ((s.mayStillMake_self _).mono (by omega))

theorem State.softReset_history_length_le (s : State) :
    ((s.setInit false).resetSeq fun u => u.respond .ok).history.length ≤ s.history.length + (1 + s.params.resetPollMax) :=
  State.MayStillMake.resetSeq (left := 0) (((s.mayStillMake_self _).mono (by omega)).setInit false) fun _ h => h.respond _

theorem State.MeasuredFrom.history_length_le {s t : State} {i : Instr} {n : Nat} (h : s.MeasuredFrom i n t) :
    t.history.length ≤ s.history.length + n := by
  obtain ⟨evs, hevs, hlen, -⟩ := h.history
  rw [hevs, List.length_append]
  exact Nat.add_le_add_left hlen _

/-- The frame of READ_TEMPERATURE with its one sample fetch. -/
theorem exec_readTemperature_measuredFrom {s t : State} (h : exec .readTemperature s = .next t) :
    s.MeasuredFrom .readTemperature 1 t := by
  cases h
  exact (s.measuredFrom_self _).requireReady fun h => h.tempRead fun _ h => h.respond _

end Sys2Proof.Machine
end

section
/-!
Proofs of the statements about reset, the host's duties and the bound on transactions.
-/
namespace Sys2Proof.Machine

/-- Settles O55: SETUP and SOFT_RESET spend their budgets, the measurement commands fetch one sample or two. -/
theorem transactionsAreBounded : Obligations.TransactionsAreBounded := by
  intro i s t h
  cases i with
  | setup => cases h; exact s.setup_history_length_le
  | softReset => cases h; exact s.softReset_history_length_le
  | readTemperature => exact (exec_readTemperature_measuredFrom h).history_length_le
  | readPressure => exact (exec_measuredFrom rfl h).history_length_le
  | readHumidity => exact (exec_measuredFrom rfl h).history_length_le
  | readAltitude arg => exact (exec_measuredFrom rfl h).history_length_le

/-- Settles O7: the event is taken and refused as it stands; neither word is decoded. -/
theorem stepRefusesBrokenHostDuties : Obligations.StepRefusesBrokenHostDuties :=
  ⟨fun _ _ _ _ hevents => step_of_cons hevents, fun _ _ _ hevents => step_of_cons hevents⟩

/-- Settles O8: the state after power-on is the reset of the one with the event taken. -/
theorem powerOnAndIdleSteps : Obligations.PowerOnAndIdleSteps := by
  refine ⟨fun s rest hevents => ?_, fun s hevents => step_of_nil hevents⟩
  exact ⟨(s.setEvents rest).powerOnReset, step_of_cons hevents, rfl, rfl, rfl, rfl, rfl, rfl⟩

/-- Settles O9: each is a field of the reset state. -/
theorem resetIsUninitializedAndIdle : Obligations.ResetIsUninitializedAndIdle := ⟨rfl, rfl, rfl, rfl⟩

/-- Settles O56: RESET_POLL_MAX is 1, there is no access to allow, and the state is not Ready (O9). -/
theorem invariantAtReset : Obligations.InvariantAtReset := by
  obtain ⟨hinit, -, hhistory, -⟩ := resetIsUninitializedAndIdle
  refine ⟨rfl, ?_, ?_⟩
  · rw [hhistory]
    exact nofun
  · rw [hinit]
    exact nofun

end Sys2Proof.Machine
end
